-- ==== Sys2Proof/Word.lean ====
section
/-! DEFINITION. The widths of the machine (spec 00_scope.md R6, R12): bytes, 16-bit register and address
words, and the 4-bit nibbles that select a register. All values are unsigned bit vectors; wrapping
arithmetic is the arithmetic of `BitVec` itself (10_state.md R23). -/

namespace Sys2Proof

/-- A byte: the accumulator, the data bus, a memory byte (`XLEN_D` = 8, R6). -/
abbrev Byte := BitVec 8

/-- A word: a general register or an address (`XLEN_R` = 16, R6). -/
abbrev Word := BitVec 16

/-- A nibble: a register number 0..15, the pointers `P` and `X`, the fields `I` and `N` (R13, R91). -/
abbrev Nibble := BitVec 4

/-- The port number of an I/O instruction, `N[2:0]` (48_io.md R255). -/
abbrev PortNumber := BitVec 3

end Sys2Proof
end

