-- ==== Sys2Proof/Config.lean ====
section
/-! DEFINITION. What an implementation fixes, and the free values of the outside world.
`Config` holds the three parameters the spec leaves OPEN (00_scope.md R6; 92 D2 to D4); a machine's state
carries one, no operation changes it, and statements quantify over it. The named constants are the
parameters to which R6 gives a value. The opaque constants are the answers of the Hardware Interface. -/

namespace Sys2Proof

/-- The OPEN parameters of R6: "fixed at build/config time, not runtime-negotiable". -/
structure Config where
  /-- `MEM_SIZE`: memory capacity in bytes (R6, 20_memory.md R61). -/
  memSize : Nat
  /-- `FLOAT_BUS`: the byte read where nothing backs an address or port (R6). -/
  floatBus : Byte
  /-- `FRAME_CYCLES`: the cycle budget per frame (R6). -/
  frameCycles : Nat
deriving DecidableEq, Repr

/-- `FRAME_RATE`: the result of a step that completes a frame (R6, 40_step.md R116). -/
abbrev Config.frameRate : Nat := 60

/-- `INT_LEAD`: the interrupt point lies this many cycles before the frame boundary (R6). -/
abbrev Config.intLead : Nat := 29

/-- `INSTR_CYCLES`: the flat charge of every instruction (R6, 40_step.md R113). -/
abbrev Config.instrCycles : Nat := 2

/-- `PAGE_SPAN`: the bytes that must lie ahead of the display page address (R6). -/
abbrev Config.pageSpan : Nat := 256

/-- `INT_P`: the register pointer forced on interrupt (R6; the spec's decision D5; notes/assumptions/11.md). -/
abbrev Config.intP : Nibble := 1

/-- `INT_X`: the index pointer forced on interrupt (R6; the spec's decision D5; notes/assumptions/11.md). -/
abbrev Config.intX : Nibble := 2

/-- `RESET_IE`: interrupt enable after reset (R6; 90_conflicts.md C1; the spec's decision D7;
notes/assumptions/7.md). -/
abbrev Config.resetIE : Bool := false

/-- `EF2_DEFAULT`: the level of the unwired flag 2 (R6, R76; the spec's decision D12; notes/assumptions/12.md). -/
abbrev Config.ef2Default : Bool := false

/-- `EF3_DEFAULT`: the level of the unwired flag 3 (R6, R76; the spec's decision D12; notes/assumptions/12.md). -/
abbrev Config.ef3Default : Bool := false

/-- The interrupt point `FRAME_CYCLES - 29` (glossary of 00_scope.md, R114). -/
abbrev Config.interruptPoint (c : Config) : Nat := c.frameCycles - Config.intLead

/-- DESIGN CHOICE (notes/assumptions/1.md, unsafe): the values `State.reset` carries for the three OPEN
parameters. They are the illustrative ones of 95_test_vectors.md; no statement rests on them. -/
def Config.illustrative : Config :=
  { memSize := 65536, floatBus := 0xFF#8, frameCycles := 3668 }

/-- The byte the `k`-th read-keypad-latch call answers: "a fresh unconstrained input at each call"
(93 U3, D27). A free value: nothing can be proved of it (notes/assumptions/2.md). -/
opaque Config.keypadLatch : Nat → Byte

/-- The answer of the `k`-th query-key-pressed call: a free value, as `Config.keypadLatch` is
(20_memory.md R75; D27; notes/assumptions/2.md). -/
opaque Config.keyPressed : Nat → Bool

end Sys2Proof
end

