-- ==== Sys2Proof/Machine/State.lean ====
section
/-! DEFINITION. The state of the machine as plain data (10_state.md), the state after reset (R50), and the
reasons a step could stop. Beside the spec's state stand the model's own fields: the parameters, the answers the
Hardware Interface gives, and what the block tells the outside (the calls of R296 and the step's result). -/

namespace Sys2Proof.Machine

/-- The storage of memory: (address, byte) pairs, in the canonical form `Memory.wf`. -/
abbrev Memory := List Host.Cell

/-- What an address that `Memory` does not list holds: 0x00, the reset contents (R50, "zeroed";
notes/assumptions/4.md). -/
def Memory.unlisted : Byte := 0x00#8

/-- The canonical form: addresses strictly rising, and no entry equal to what an unlisted address holds. Equal
memories are then equal lists. -/
abbrev Memory.wf (m : Memory) : Prop :=
  m.Pairwise (fun c c' => c.1 < c'.1) ∧ ∀ c ∈ m, c.2 ≠ Memory.unlisted

/-- A call of the block to the Hardware Interface (60_exceptions.md R296). The two queries carry the answer
they were given. The two "get" operations of R296 are never called by the block. -/
inductive HwCall where
  /-- set-screen-on-state(on): made by INP 1. -/
  | setScreenOn
  /-- set-screen-on-state(off): made by OUT 1. -/
  | setScreenOff
  /-- set-digit-display(v): made by OUT 4. -/
  | setDigitDisplay (v : Byte)
  /-- read-keypad-latch, and the byte answered: made by INP 4. -/
  | readKeypadLatch (answer : Byte)
  /-- query-key-pressed, and the bit answered: made by B4 and BN4. -/
  | queryKeyPressed (answer : Bool)
  /-- set-display-page(a, p): made by the frame check; `page` is the place in memory the pointer points at, or
  none (R115). -/
  | setDisplayPage (address : Word) (page : Option Nat)
  /-- end-of-frame: made by the frame check after set-display-page. -/
  | endOfFrame
  /-- reset-notification: made by reset (R310). -/
  | resetNotification
deriving DecidableEq, Repr

/-- The state. Registers and flags are those of R20, hidden state that of R40 to R42, memory that of R45. -/
structure State where
  /-- `R[0]`..`R[15]`, 16 bits each (R21); read and written through `readReg` and `writeReg`. -/
  r : Vector Word 16
  /-- `D`, the accumulator (R28). -/
  d : Byte
  /-- `DF`, the arithmetic/borrow flag (R29). -/
  df : Bool
  /-- `Q`, the output flag (R30). -/
  q : Bool
  /-- `IE`, the interrupt-enable flag (R31). -/
  ie : Bool
  /-- `P`, the register pointer: `R[P]` is the program counter (R24). -/
  p : Nibble
  /-- `X`, the index pointer (R25). -/
  x : Nibble
  /-- `T`, the save register: a saved `X` in bits 7..4, a saved `P` in bits 3..0 (R32). -/
  t : Byte
  /-- `CYC`, the cycle counter (R40), an unbounded natural number (R41). -/
  cyc : Nat
  /-- `MA`, the address latch of the bus (R42). -/
  ma : Word
  /-- `MB`, the data latch of the bus (R42). -/
  mb : Byte
  /-- `mem` (R45). -/
  mem : Memory
  /-- The model's own: the parameters of this machine (R6), which no operation changes. -/
  cfg : Config
  /-- The model's own: answers to the next read-keypad-latch calls, the next one first. When none is left the
  answer is the free value `Config.keypadLatch`. -/
  keypadAnswers : List Byte
  /-- The model's own: how many read-keypad-latch calls have been made. -/
  keypadQueries : Nat
  /-- The model's own: answers to the next query-key-pressed calls, the next one first. When none is left the
  answer is the free value `Config.keyPressed`. -/
  keyAnswers : List Bool
  /-- The model's own: how many query-key-pressed calls have been made. -/
  keyQueries : Nat
  /-- The model's own: the calls made to the Hardware Interface, oldest first (notes/assumptions/3.md). Nothing
  reads it. -/
  trace : List HwCall
  /-- The model's own: the number the last step returned to the host (R116; notes/assumptions/3.md). Nothing
  reads it. -/
  result : Nat
deriving DecidableEq, Repr

/-- No step ends in a fault: "No exceptions propagate from the instruction pipeline: every address and opcode
has a total, defined behavior" (R265, R121), and there is no fault state (R342). The type is empty. -/
inductive Fault
deriving DecidableEq, Repr

/-- Why an instruction is refused. -/
inductive Refusal where
  /-- The instruction has no meaning in the model yet: only an arm of `exec` may say so (safe). No arm does:
  every instruction has its meaning. -/
  | notModelled (mnemonic : String)
deriving DecidableEq, Repr

/-- What a meaning answers. -/
abbrev Result := Host.Outcome State Fault Refusal

/-- The state after `Reset()` of a machine with the parameters `c` (R50, R310): everything zero, `IE` at
`RESET_IE`, and one reset notification made. The answers of the Hardware Interface are all free. -/
def State.resetWith (c : Config) : State :=
  { r := Vector.replicate 16 0x0000#16
    d := 0x00#8, df := false, q := false, ie := Config.resetIE, p := 0#4, x := 0#4, t := 0x00#8
    cyc := 0, ma := 0x0000#16, mb := 0x00#8, mem := [], cfg := c
    keypadAnswers := [], keypadQueries := 0, keyAnswers := [], keyQueries := 0
    trace := [.resetNotification], result := 0 }

/-- The machine right after reset (R50), with the illustrative parameters (notes/assumptions/1.md). -/
def State.reset : State := State.resetWith Config.illustrative

end Sys2Proof.Machine
end

