-- ==== Sys2Proof/Machine/Ops.lean ====
section
/-! DEFINITION. The named operations over registers, memory and the bus (10_state.md, 20_memory.md), the fetch
(40_step.md R111), taking the interrupt (60_exceptions.md R272) and returning from it (R280). -/

namespace Sys2Proof.Machine

/-! ### Halves and nibbles (R22, R32) -/

/-- `v[7:0]`. -/
def lowByte (v : Word) : Byte := v.extractLsb' 0 8

/-- `v[15:8]`. -/
def highByte (v : Word) : Byte := v.extractLsb' 8 8

/-- `v[15:8] : b`. -/
def withLowByte (v : Word) (b : Byte) : Word := highByte v ++ b

/-- `b : v[7:0]`. -/
def withHighByte (v : Word) (b : Byte) : Word := b ++ lowByte v

/-- The packed pair `X : P` (R32). -/
def packXP (x p : Nibble) : Byte := x ++ p

/-- The `X` of a packed pair, `b[7:4]`. -/
def unpackX (b : Byte) : Nibble := b.extractLsb' 4 4

/-- The `P` of a packed pair, `b[3:0]`. -/
def unpackP (b : Byte) : Nibble := b.extractLsb' 0 4

/-! ### Registers (R21 to R25) -/

/-- `R[n]`. -/
def State.readReg (s : State) (n : Nibble) : Word := s.r[n.toNat]'(n.isLt)

/-- `R[n] <- v`. -/
def State.writeReg (s : State) (n : Nibble) (v : Word) : State := { s with r := s.r.set n.toNat v n.isLt }

/-- The program counter, `R[P]` (R24). -/
def State.pc (s : State) : Word := s.readReg s.p

/-- The index register, `R[X]` (R25). -/
def State.index (s : State) : Word := s.readReg s.x

/-- `R[P] <- v`. -/
def State.setPc (s : State) (v : Word) : State := s.writeReg s.p v

/-- `R[n] <- (R[n] + 1) mod 2^16` (R23). -/
def State.incReg (s : State) (n : Nibble) : State := s.writeReg n (s.readReg n + 1)

/-- `R[n] <- (R[n] - 1) mod 2^16` (R23). -/
def State.decReg (s : State) (n : Nibble) : State := s.writeReg n (s.readReg n - 1)

/-- `D <- v`. -/
def State.setD (s : State) (v : Byte) : State := { s with d := v }

/-! ### Memory (R61 to R63) -/

/-- The byte listed at `a`, or what an unlisted address holds. -/
def Memory.read : Memory → Nat → Byte
  | [], _ => Memory.unlisted
  | c :: m, a => if c.1 = a then c.2 else Memory.read m a

/-- Every entry at `a` taken out. -/
def Memory.erase : Memory → Nat → Memory
  | [], _ => []
  | c :: m, a => if c.1 = a then Memory.erase m a else c :: Memory.erase m a

/-- An entry put in front of the first one at a higher address. -/
def Memory.insert : Memory → Nat → Byte → Memory
  | [], a, v => [(a, v)]
  | c :: m, a, v => if a < c.1 then (a, v) :: c :: m else c :: Memory.insert m a v

/-- The byte at `a` becomes `v`; writing what an unlisted address holds removes the entry. -/
def Memory.write (m : Memory) (a : Nat) (v : Byte) : Memory :=
  if v = Memory.unlisted then m.erase a else (m.erase a).insert a v

/-- An address is in bounds when `a < MEM_SIZE` (R61). -/
def State.inBounds (s : State) (a : Word) : Bool := decide (a.toNat < s.cfg.memSize)

/-- The byte `MemRead(a, 1)` returns: the stored byte in bounds, `FLOAT_BUS` elsewhere (R62). Reading it this
way leaves the latches alone; it is also the `peek` of R85. -/
def State.peek (s : State) (a : Word) : Byte := if s.inBounds a then s.mem.read a.toNat else s.cfg.floatBus

/-- The memory change of `MemWrite(a, 1, v)`: stores in bounds, discards elsewhere (R63). It leaves the latches
alone; it is also the `poke` of R85. -/
def State.poke (s : State) (a : Word) (v : Byte) : State :=
  { s with mem := if s.inBounds a then s.mem.write a.toNat v else s.mem }

/-- `MemRead(a, 1)` (R62): the byte, and the state with both latches updated. -/
def State.memRead (s : State) (a : Word) : Byte × State := (s.peek a, { s with ma := a, mb := s.peek a })

/-- `MemWrite(a, 1, v)` (R63). -/
def State.memWrite (s : State) (a : Word) (v : Byte) : State := { s with ma := a, mb := v }.poke a v

/-! ### Fetch (R111, R14) -/

/-- `Fetch()`: the byte at `R[P]`, which then advances by one. -/
def State.fetch (s : State) : Byte × State :=
  ((s.memRead s.pc).1, (s.memRead s.pc).2.setPc (s.pc + 1))

/-- `Fetch()` of an operand byte the decoder has already read: `k` is the byte at `R[P]`. -/
def State.fetchOperand (s : State) (k : Byte) : State := { s with ma := s.pc, mb := k }.setPc (s.pc + 1)

/-- `MemRead(R[P], 1)` of an operand byte `a` the decoder has already read, without moving `R[P]`
(45_short_branch.md R185). -/
def State.readOperand (s : State) (a : Byte) : State := { s with ma := s.pc, mb := a }

/-! ### The Hardware Interface (R296) -/

/-- A one-way call. -/
def State.call (s : State) (c : HwCall) : State := { s with trace := s.trace ++ [c] }

/-- What the next read-keypad-latch call answers: any byte (R72). -/
def State.nextKeypad (s : State) : Byte :=
  match s.keypadAnswers with
  | v :: _ => v
  | [] => Config.keypadLatch s.keypadQueries

/-- What the next query-key-pressed call answers: any bit (R75). -/
def State.nextKey (s : State) : Bool :=
  match s.keyAnswers with
  | b :: _ => b
  | [] => Config.keyPressed s.keyQueries

/-- read-keypad-latch. -/
def State.readKeypad (s : State) : Byte × State :=
  (s.nextKeypad, { s with keypadAnswers := s.keypadAnswers.tail, keypadQueries := s.keypadQueries + 1
                          trace := s.trace ++ [.readKeypadLatch s.nextKeypad] })

/-- query-key-pressed. -/
def State.queryKey (s : State) : Bool × State :=
  (s.nextKey, { s with keyAnswers := s.keyAnswers.tail, keyQueries := s.keyQueries + 1
                       trace := s.trace ++ [.queryKeyPressed s.nextKey] })

/-! ### The interrupt -/

/-- `DeliverInterrupt()` (R272): `T` takes `X : P`, `P` and `X` take the fixed vector values, `IE` is cleared,
`CYC` is pinned to the interrupt point. No general register and no byte of memory changes (R273). -/
def State.deliverInterrupt (s : State) : State :=
  { s with t := packXP s.x s.p, p := Config.intP, x := Config.intX, ie := false, cyc := s.cfg.interruptPoint }

/-- The return (R280, 47_control.md R242, R243): one byte at `R[X]`, the register of the old `X` incremented,
`X` and `P` loaded from the byte's nibbles, and `IE` left as `ie`. -/
def State.returnFromInterrupt (s : State) (ie : Bool) : State :=
  { (s.memRead s.index).2.incReg s.x with
      x := unpackX (s.memRead s.index).1, p := unpackP (s.memRead s.index).1, ie := ie }

end Sys2Proof.Machine
end

