-- ==== Sys2Proof/Machine/Flags.lean ====
section
/-! DEFINITION. The part named `alu` (00_scope.md R11): the adder (44_arithmetic.md R165) and the logic and
shift functions (43_logic_shift.md R150), each with the new `DF` it computes. -/

namespace Sys2Proof.Machine

/-- `add9(a, b, c) = a + b + c`, a natural number in 0..511 (R165). -/
def add9 (a b : Byte) (c : Bool) : Nat := a.toNat + b.toNat + c.toNat

/-- `not8(y) = 255 - y` (R165). -/
def not8 (y : Byte) : Byte := ~~~y

/-- The new `D` and `DF`: `add9[7:0]` and `add9[8]`, which is 1 exactly when the sum is 256 or more (R165). -/
def sumAndCarry (a b : Byte) (c : Bool) : Byte × Bool :=
  (BitVec.ofNat 8 (add9 a b c), decide (256 ≤ add9 a b c))

/-! The rows of the table of R165: the new (`D`, `DF`) from the operand `m` and the old `D` and `DF`. -/

/-- ADD, ADI: `add9(M, D, 0)`. -/
def addOp (m d : Byte) (_df : Bool) : Byte × Bool := sumAndCarry m d false

/-- ADC, ADCI: `add9(M, D, DF)`. -/
def adcOp (m d : Byte) (df : Bool) : Byte × Bool := sumAndCarry m d df

/-- SD, SDI: `add9(M, not8(D), 1)`. -/
def sdOp (m d : Byte) (_df : Bool) : Byte × Bool := sumAndCarry m (not8 d) true

/-- SDB, SDBI: `add9(M, not8(D), DF)`. -/
def sdbOp (m d : Byte) (df : Bool) : Byte × Bool := sumAndCarry m (not8 d) df

/-- SM, SMI: `add9(D, not8(M), 1)`. -/
def smOp (m d : Byte) (_df : Bool) : Byte × Bool := sumAndCarry d (not8 m) true

/-- SMB, SMBI: `add9(D, not8(M), DF)`. -/
def smbOp (m d : Byte) (df : Bool) : Byte × Bool := sumAndCarry d (not8 m) df

/-- `or8` (R150). -/
def or8 (a b : Byte) : Byte := a ||| b

/-- `and8` (R150). -/
def and8 (a b : Byte) : Byte := a &&& b

/-- `xor8` (R150). -/
def xor8 (a b : Byte) : Byte := a ^^^ b

/-- `shr(d, cin) = (cin : d[7:1], d[0])` (R150). -/
def shr (d : Byte) (cin : Bool) : Byte × Bool := (BitVec.ofBool cin ++ d.extractLsb' 1 7, d.getLsbD 0)

/-- `shl(d, cin) = (d[6:0] : cin, d[7])` (R150). -/
def shl (d : Byte) (cin : Bool) : Byte × Bool := (d.extractLsb' 0 7 ++ BitVec.ofBool cin, d.getLsbD 7)

/-- `(D, DF) <- r`. -/
def State.setAlu (s : State) (r : Byte × Bool) : State := { s with d := r.1, df := r.2 }

end Sys2Proof.Machine
end

