-- ==== Sys2Proof/Machine/Operands.lean ====
section
/-! DEFINITION. The operand forms (41_memory_reference.md R130), the ports and the external flags
(20_memory.md R70 to R76). An operand form answers the byte and the state after it was read. -/

namespace Sys2Proof.Machine

/-! ### The four ways an instruction names a memory byte (R130)

The post-increment and post-decrement of the advancing forms are written where the instruction performs them:
`State.incReg`, `State.decReg` after the access. -/

/-- Register indirect through `R[N]`. -/
def State.viaN (s : State) (n : Nibble) : Byte × State := s.memRead (s.readReg n)

/-- Index-register indirect through `R[X]`. -/
def State.viaX (s : State) : Byte × State := s.memRead s.index

/-- Immediate: the byte `k` at `R[P]`, which then advances (`Fetch()`). -/
def State.immediate (s : State) (k : Byte) : Byte × State := (k, s.fetchOperand k)

/-! ### Ports (R70 to R73) -/

/-- `PortIn(n)`: port 1 turns the screen on and answers `FLOAT_BUS` (R71), port 4 answers the keypad latch
(R72), every other port answers `FLOAT_BUS` (R73; the spec's decision D13). -/
def State.portIn (s : State) (n : PortNumber) : Byte × State :=
  if n = 1 then (s.cfg.floatBus, s.call .setScreenOn)
  else if n = 4 then s.readKeypad
  else (s.cfg.floatBus, s)

/-- `PortOut(n, v)`: port 1 turns the screen off, `v` ignored (R71), port 4 is the digit display (R72), every
other port discards `v` (R73). -/
def State.portOut (s : State) (n : PortNumber) (v : Byte) : State :=
  if n = 1 then s.call .setScreenOff
  else if n = 4 then s.call (.setDigitDisplay v)
  else s

/-! ### External flags (R74 to R76) -/

/-- The four external flags. -/
inductive ExtFlag where
  | ef1 | ef2 | ef3 | ef4
deriving DecidableEq, Repr

/-- `EF(n)`: flag 1 always asserted, flag 4 a live query of the Hardware Interface (R75), flags 2 and 3 at
their inert defaults (R76). -/
def State.ef (s : State) : ExtFlag → Bool × State
  | .ef1 => (true, s)
  | .ef2 => (Config.ef2Default, s)
  | .ef3 => (Config.ef3Default, s)
  | .ef4 => s.queryKey

end Sys2Proof.Machine
end

