-- ==== Sys2Proof/Machine/Arithmetic.lean ====
section
/-! DEFINITION. The arithmetic instructions (44_arithmetic.md): ADD, ADC, SD, SDB, SM, SMB over the byte at `R[X]`,
and their immediate forms. Each writes `D` and `DF` (and `R[P]` for the immediate forms). -/

namespace Sys2Proof.Machine

/-- `(DF, D) <- f(operand, D, DF)`, all right-hand sides reading the old `D` and `DF` (R165). -/
def arithmetic (operand : Byte × State) (f : Byte → Byte → Bool → Byte × Bool) : Result :=
  .next (operand.2.setAlu (f operand.1 operand.2.d operand.2.df))

/-- ADD, 0xF4 (R167). -/
def execAdd (s : State) : Result := arithmetic s.viaX addOp

/-- ADC, 0x74 (R169). -/
def execAdc (s : State) : Result := arithmetic s.viaX adcOp

/-- SD, 0xF5 (R171). -/
def execSd (s : State) : Result := arithmetic s.viaX sdOp

/-- SDB, 0x75 (R173). -/
def execSdb (s : State) : Result := arithmetic s.viaX sdbOp

/-- SM, 0xF7 (R175). -/
def execSm (s : State) : Result := arithmetic s.viaX smOp

/-- SMB, 0x77 (R177). -/
def execSmb (s : State) : Result := arithmetic s.viaX smbOp

/-- ADI, 0xFC (R168). -/
def execAdi (k : Byte) (s : State) : Result := arithmetic (s.immediate k) addOp

/-- ADCI, 0x7C (R170). -/
def execAdci (k : Byte) (s : State) : Result := arithmetic (s.immediate k) adcOp

/-- SDI, 0xFD (R172). -/
def execSdi (k : Byte) (s : State) : Result := arithmetic (s.immediate k) sdOp

/-- SDBI, 0x7D (R174). -/
def execSdbi (k : Byte) (s : State) : Result := arithmetic (s.immediate k) sdbOp

/-- SMI, 0xFF (R176). -/
def execSmi (k : Byte) (s : State) : Result := arithmetic (s.immediate k) smOp

/-- SMBI, 0x7F (R178). -/
def execSmbi (k : Byte) (s : State) : Result := arithmetic (s.immediate k) smbOp

end Sys2Proof.Machine
end

