-- ==== Sys2Proof/Machine/Control.lean ====
section
/-! DEFINITION. The control instructions (47_control.md): IDL, NOP, SEQ, REQ, opcode 0x68, SEP, SEX, RET, DIS, SAV,
MARK. All are unprivileged and none can trap (R247). -/

namespace Sys2Proof.Machine

/-- The condition phase 4 will evaluate after this instruction's cycle advance (R235, R114): `CYC` is the value
before the advance. -/
def interruptWillCome (s : State) : Bool :=
  decide (s.cfg.interruptPoint ≤ s.cyc + Config.instrCycles) && s.ie

/-- `P <- N` (R240). -/
def setP (n : Nibble) (s : State) : Result := .next { s with p := n }

/-- `X <- N` (R241). -/
def setX (n : Nibble) (s : State) : Result := .next { s with x := n }

/-- IDL, 0x00 (R235): held, `R[P]` moved back onto the IDL, on every step but the one on which the interrupt is
delivered (the spec's decision D11; notes/assumptions/6.md). -/
def execIdl (s : State) : Result := .next (if interruptWillCome s then s else s.decReg s.p)

/-- NOP, 0xC4 (R236). -/
def execNop (s : State) : Result := .next s

/-- The unassigned opcode 0x68 (R239): a no-operation (the spec's decision D10; notes/assumptions/5.md). -/
def execIll68 (s : State) : Result := .next s

/-- SEQ, 0x7B (R237). -/
def execSeq (s : State) : Result := .next { s with q := true }

/-- REQ, 0x7A (R238). -/
def execReq (s : State) : Result := .next { s with q := false }

/-- SEP 0, 0xD0 (R240). -/
def execSep0 (s : State) : Result := setP 0 s

/-- SEP 1, 0xD1 (R240). -/
def execSep1 (s : State) : Result := setP 1 s

/-- SEP 2, 0xD2 (R240). -/
def execSep2 (s : State) : Result := setP 2 s

/-- SEP 3, 0xD3 (R240). -/
def execSep3 (s : State) : Result := setP 3 s

/-- SEP 4, 0xD4 (R240). -/
def execSep4 (s : State) : Result := setP 4 s

/-- SEP 5, 0xD5 (R240). -/
def execSep5 (s : State) : Result := setP 5 s

/-- SEP 6, 0xD6 (R240). -/
def execSep6 (s : State) : Result := setP 6 s

/-- SEP 7, 0xD7 (R240). -/
def execSep7 (s : State) : Result := setP 7 s

/-- SEP 8, 0xD8 (R240). -/
def execSep8 (s : State) : Result := setP 8 s

/-- SEP 9, 0xD9 (R240). -/
def execSep9 (s : State) : Result := setP 9 s

/-- SEP 10, 0xDA (R240). -/
def execSep10 (s : State) : Result := setP 10 s

/-- SEP 11, 0xDB (R240). -/
def execSep11 (s : State) : Result := setP 11 s

/-- SEP 12, 0xDC (R240). -/
def execSep12 (s : State) : Result := setP 12 s

/-- SEP 13, 0xDD (R240). -/
def execSep13 (s : State) : Result := setP 13 s

/-- SEP 14, 0xDE (R240). -/
def execSep14 (s : State) : Result := setP 14 s

/-- SEP 15, 0xDF (R240). -/
def execSep15 (s : State) : Result := setP 15 s

/-- SEX 0, 0xE0 (R241). -/
def execSex0 (s : State) : Result := setX 0 s

/-- SEX 1, 0xE1 (R241). -/
def execSex1 (s : State) : Result := setX 1 s

/-- SEX 2, 0xE2 (R241). -/
def execSex2 (s : State) : Result := setX 2 s

/-- SEX 3, 0xE3 (R241). -/
def execSex3 (s : State) : Result := setX 3 s

/-- SEX 4, 0xE4 (R241). -/
def execSex4 (s : State) : Result := setX 4 s

/-- SEX 5, 0xE5 (R241). -/
def execSex5 (s : State) : Result := setX 5 s

/-- SEX 6, 0xE6 (R241). -/
def execSex6 (s : State) : Result := setX 6 s

/-- SEX 7, 0xE7 (R241). -/
def execSex7 (s : State) : Result := setX 7 s

/-- SEX 8, 0xE8 (R241). -/
def execSex8 (s : State) : Result := setX 8 s

/-- SEX 9, 0xE9 (R241). -/
def execSex9 (s : State) : Result := setX 9 s

/-- SEX 10, 0xEA (R241). -/
def execSex10 (s : State) : Result := setX 10 s

/-- SEX 11, 0xEB (R241). -/
def execSex11 (s : State) : Result := setX 11 s

/-- SEX 12, 0xEC (R241). -/
def execSex12 (s : State) : Result := setX 12 s

/-- SEX 13, 0xED (R241). -/
def execSex13 (s : State) : Result := setX 13 s

/-- SEX 14, 0xEE (R241). -/
def execSex14 (s : State) : Result := setX 14 s

/-- SEX 15, 0xEF (R241). -/
def execSex15 (s : State) : Result := setX 15 s

/-- RET, 0x70 (R242). -/
def execRet (s : State) : Result := .next (s.returnFromInterrupt true)

/-- DIS, 0x71 (R243). -/
def execDis (s : State) : Result := .next (s.returnFromInterrupt false)

/-- SAV, 0x78 (R244). -/
def execSav (s : State) : Result := .next (s.memWrite s.index s.t)

/-- MARK, 0x79 (R245): `T <- X : P; MemWrite(R[2], 1, T); X <- P; R[2] <- R[2] - 1`. -/
def execMark (s : State) : Result :=
  .next { ({ s with t := packXP s.x s.p }.memWrite (s.readReg 2) (packXP s.x s.p)).decReg 2 with x := s.p }

end Sys2Proof.Machine
end

