-- ==== Sys2Proof/Machine/InputOutput.lean ====
section
/-! DEFINITION. The input/output byte transfers (48_io.md). The memory side is the byte at `R[X]`; no flag is
written. -/

namespace Sys2Proof.Machine

/-- `v <- MemRead(R[X], 1); PortOut(n, v); R[X] <- R[X] + 1` (R256). -/
def output (n : PortNumber) (s : State) : Result := .next ((s.viaX.2.portOut n s.viaX.1).incReg s.x)

/-- `v <- PortIn(n); MemWrite(R[X], 1, v); D <- v` (R257). -/
def input (n : PortNumber) (s : State) : Result :=
  .next (((s.portIn n).2.memWrite s.index (s.portIn n).1).setD (s.portIn n).1)

/-- OUT 1, 0x61 (R256). -/
def execOut1 (s : State) : Result := output 1 s

/-- OUT 2, 0x62 (R256). -/
def execOut2 (s : State) : Result := output 2 s

/-- OUT 3, 0x63 (R256). -/
def execOut3 (s : State) : Result := output 3 s

/-- OUT 4, 0x64 (R256). -/
def execOut4 (s : State) : Result := output 4 s

/-- OUT 5, 0x65 (R256). -/
def execOut5 (s : State) : Result := output 5 s

/-- OUT 6, 0x66 (R256). -/
def execOut6 (s : State) : Result := output 6 s

/-- OUT 7, 0x67 (R256). -/
def execOut7 (s : State) : Result := output 7 s

/-- INP 1, 0x69 (R257). -/
def execInp1 (s : State) : Result := input 1 s

/-- INP 2, 0x6A (R257). -/
def execInp2 (s : State) : Result := input 2 s

/-- INP 3, 0x6B (R257). -/
def execInp3 (s : State) : Result := input 3 s

/-- INP 4, 0x6C (R257). -/
def execInp4 (s : State) : Result := input 4 s

/-- INP 5, 0x6D (R257). -/
def execInp5 (s : State) : Result := input 5 s

/-- INP 6, 0x6E (R257). -/
def execInp6 (s : State) : Result := input 6 s

/-- INP 7, 0x6F (R257). -/
def execInp7 (s : State) : Result := input 7 s

end Sys2Proof.Machine
end

