-- ==== Sys2Proof/Machine/LogicShift.lean ====
section
/-! DEFINITION. The logic and shift instructions (43_logic_shift.md). The logic instructions write `D` and nothing
else of the registers; the shifts write `D` and `DF`. -/

namespace Sys2Proof.Machine

/-- `D <- f(operand, D)` (R150). -/
def logic (operand : Byte × State) (f : Byte → Byte → Byte) : Result :=
  .next (operand.2.setD (f operand.1 operand.2.d))

/-- `(D, DF) <- f(D, cin)` (R150). -/
def shift (f : Byte → Bool → Byte × Bool) (cin : Bool) (s : State) : Result := .next (s.setAlu (f s.d cin))

/-- OR, 0xF1 (R151). -/
def execOr (s : State) : Result := logic s.viaX or8

/-- XOR, 0xF3 (R153). -/
def execXor (s : State) : Result := logic s.viaX xor8

/-- AND, 0xF2 (R155). -/
def execAnd (s : State) : Result := logic s.viaX and8

/-- ORI, 0xF9 (R152). -/
def execOri (k : Byte) (s : State) : Result := logic (s.immediate k) or8

/-- XRI, 0xFB (R154). -/
def execXri (k : Byte) (s : State) : Result := logic (s.immediate k) xor8

/-- ANI, 0xFA (R156). -/
def execAni (k : Byte) (s : State) : Result := logic (s.immediate k) and8

/-- SHR, 0xF6 (R157). -/
def execShr (s : State) : Result := shift shr false s

/-- SHRC, 0x76 (R158). -/
def execShrc (s : State) : Result := shift shr s.df s

/-- SHL, 0xFE (R159). -/
def execShl (s : State) : Result := shift shl false s

/-- SHLC, 0x7E (R160). -/
def execShlc (s : State) : Result := shift shl s.df s

end Sys2Proof.Machine
end

