-- ==== Sys2Proof/Machine/LongBranchSkip.lean ====
section
/-! DEFINITION. The long branches and the long skips (46_long_branch_skip.md). They write nothing but `R[P]` and, for
the branches, the bus latches. -/

namespace Sys2Proof.Machine

/-- `LongBranch(cond)` (R210): both operand bytes are fetched, the high byte first; then a taken branch loads
`hi : lo` into `R[P]`. -/
def longBranch (cond : Bool) (target : Word) (s : State) : Result :=
  let s' := (s.fetchOperand (highByte target)).fetchOperand (lowByte target)
  .next (if cond then s'.setPc target else s')

/-- `LongSkip(cond)` (R220): no byte is read. -/
def longSkip (cond : Bool) (s : State) : Result := .next (if cond then s.setPc (s.pc + 2) else s)

/-- LBR, 0xC0 (R211). -/
def execLbr (target : Word) (s : State) : Result := longBranch true target s

/-- LBQ, 0xC1 (R212). -/
def execLbq (target : Word) (s : State) : Result := longBranch s.q target s

/-- LBZ, 0xC2 (R213). -/
def execLbz (target : Word) (s : State) : Result := longBranch (s.d == 0) target s

/-- LBDF, 0xC3 (R214). -/
def execLbdf (target : Word) (s : State) : Result := longBranch s.df target s

/-- LBNQ, 0xC9 (R215). -/
def execLbnq (target : Word) (s : State) : Result := longBranch (!s.q) target s

/-- LBNZ, 0xCA (R216). -/
def execLbnz (target : Word) (s : State) : Result := longBranch (s.d != 0) target s

/-- LBNF, 0xCB (R217). -/
def execLbnf (target : Word) (s : State) : Result := longBranch (!s.df) target s

/-- LSKP, 0xC8 (R221). -/
def execLskp (s : State) : Result := longSkip true s

/-- LSNQ, 0xC5 (R222). -/
def execLsnq (s : State) : Result := longSkip (!s.q) s

/-- LSNZ, 0xC6 (R223). -/
def execLsnz (s : State) : Result := longSkip (s.d != 0) s

/-- LSNF, 0xC7 (R224). -/
def execLsnf (s : State) : Result := longSkip (!s.df) s

/-- LSQ, 0xCD (R225). -/
def execLsq (s : State) : Result := longSkip s.q s

/-- LSZ, 0xCE (R226). -/
def execLsz (s : State) : Result := longSkip (s.d == 0) s

/-- LSDF, 0xCF (R227). -/
def execLsdf (s : State) : Result := longSkip s.df s

/-- LSIE, 0xCC (R229). -/
def execLsie (s : State) : Result := longSkip s.ie s

end Sys2Proof.Machine
end

