-- ==== Sys2Proof/Machine/MemoryReference.lean ====
section
/-! DEFINITION. The memory reference instructions (41_memory_reference.md): LDN, LDA, LDX, LDXA, LDI, STR, STXD.
Each meaning is phase 2 of the step: the opcode is fetched and `R[P]` is past it. Loads and stores write no flag. -/

namespace Sys2Proof.Machine

/-- `D <- MemRead(R[N], 1)` (R131). -/
def loadN (n : Nibble) (s : State) : Result := .next ((s.viaN n).2.setD (s.viaN n).1)

/-- `D <- MemRead(R[N], 1); R[N] <- R[N] + 1` (R132). -/
def loadAdvance (n : Nibble) (s : State) : Result := .next (((s.viaN n).2.setD (s.viaN n).1).incReg n)

/-- `MemWrite(R[N], 1, D)` (R136). -/
def storeN (n : Nibble) (s : State) : Result := .next (s.memWrite (s.readReg n) s.d)

/-- LDN 1, 0x01 (R131). -/
def execLdn1 (s : State) : Result := loadN 1 s

/-- LDN 2, 0x02 (R131). -/
def execLdn2 (s : State) : Result := loadN 2 s

/-- LDN 3, 0x03 (R131). -/
def execLdn3 (s : State) : Result := loadN 3 s

/-- LDN 4, 0x04 (R131). -/
def execLdn4 (s : State) : Result := loadN 4 s

/-- LDN 5, 0x05 (R131). -/
def execLdn5 (s : State) : Result := loadN 5 s

/-- LDN 6, 0x06 (R131). -/
def execLdn6 (s : State) : Result := loadN 6 s

/-- LDN 7, 0x07 (R131). -/
def execLdn7 (s : State) : Result := loadN 7 s

/-- LDN 8, 0x08 (R131). -/
def execLdn8 (s : State) : Result := loadN 8 s

/-- LDN 9, 0x09 (R131). -/
def execLdn9 (s : State) : Result := loadN 9 s

/-- LDN 10, 0x0A (R131). -/
def execLdn10 (s : State) : Result := loadN 10 s

/-- LDN 11, 0x0B (R131). -/
def execLdn11 (s : State) : Result := loadN 11 s

/-- LDN 12, 0x0C (R131). -/
def execLdn12 (s : State) : Result := loadN 12 s

/-- LDN 13, 0x0D (R131). -/
def execLdn13 (s : State) : Result := loadN 13 s

/-- LDN 14, 0x0E (R131). -/
def execLdn14 (s : State) : Result := loadN 14 s

/-- LDN 15, 0x0F (R131). -/
def execLdn15 (s : State) : Result := loadN 15 s

/-- LDA 0, 0x40 (R132). -/
def execLda0 (s : State) : Result := loadAdvance 0 s

/-- LDA 1, 0x41 (R132). -/
def execLda1 (s : State) : Result := loadAdvance 1 s

/-- LDA 2, 0x42 (R132). -/
def execLda2 (s : State) : Result := loadAdvance 2 s

/-- LDA 3, 0x43 (R132). -/
def execLda3 (s : State) : Result := loadAdvance 3 s

/-- LDA 4, 0x44 (R132). -/
def execLda4 (s : State) : Result := loadAdvance 4 s

/-- LDA 5, 0x45 (R132). -/
def execLda5 (s : State) : Result := loadAdvance 5 s

/-- LDA 6, 0x46 (R132). -/
def execLda6 (s : State) : Result := loadAdvance 6 s

/-- LDA 7, 0x47 (R132). -/
def execLda7 (s : State) : Result := loadAdvance 7 s

/-- LDA 8, 0x48 (R132). -/
def execLda8 (s : State) : Result := loadAdvance 8 s

/-- LDA 9, 0x49 (R132). -/
def execLda9 (s : State) : Result := loadAdvance 9 s

/-- LDA 10, 0x4A (R132). -/
def execLda10 (s : State) : Result := loadAdvance 10 s

/-- LDA 11, 0x4B (R132). -/
def execLda11 (s : State) : Result := loadAdvance 11 s

/-- LDA 12, 0x4C (R132). -/
def execLda12 (s : State) : Result := loadAdvance 12 s

/-- LDA 13, 0x4D (R132). -/
def execLda13 (s : State) : Result := loadAdvance 13 s

/-- LDA 14, 0x4E (R132). -/
def execLda14 (s : State) : Result := loadAdvance 14 s

/-- LDA 15, 0x4F (R132). -/
def execLda15 (s : State) : Result := loadAdvance 15 s

/-- LDX, 0xF0 (R133). -/
def execLdx (s : State) : Result := .next (s.viaX.2.setD s.viaX.1)

/-- LDXA, 0x72 (R134). -/
def execLdxa (s : State) : Result := .next ((s.viaX.2.setD s.viaX.1).incReg s.x)

/-- LDI, 0xF8 (R135). -/
def execLdi (k : Byte) (s : State) : Result := .next ((s.immediate k).2.setD (s.immediate k).1)

/-- STR 0, 0x50 (R136). -/
def execStr0 (s : State) : Result := storeN 0 s

/-- STR 1, 0x51 (R136). -/
def execStr1 (s : State) : Result := storeN 1 s

/-- STR 2, 0x52 (R136). -/
def execStr2 (s : State) : Result := storeN 2 s

/-- STR 3, 0x53 (R136). -/
def execStr3 (s : State) : Result := storeN 3 s

/-- STR 4, 0x54 (R136). -/
def execStr4 (s : State) : Result := storeN 4 s

/-- STR 5, 0x55 (R136). -/
def execStr5 (s : State) : Result := storeN 5 s

/-- STR 6, 0x56 (R136). -/
def execStr6 (s : State) : Result := storeN 6 s

/-- STR 7, 0x57 (R136). -/
def execStr7 (s : State) : Result := storeN 7 s

/-- STR 8, 0x58 (R136). -/
def execStr8 (s : State) : Result := storeN 8 s

/-- STR 9, 0x59 (R136). -/
def execStr9 (s : State) : Result := storeN 9 s

/-- STR 10, 0x5A (R136). -/
def execStr10 (s : State) : Result := storeN 10 s

/-- STR 11, 0x5B (R136). -/
def execStr11 (s : State) : Result := storeN 11 s

/-- STR 12, 0x5C (R136). -/
def execStr12 (s : State) : Result := storeN 12 s

/-- STR 13, 0x5D (R136). -/
def execStr13 (s : State) : Result := storeN 13 s

/-- STR 14, 0x5E (R136). -/
def execStr14 (s : State) : Result := storeN 14 s

/-- STR 15, 0x5F (R136). -/
def execStr15 (s : State) : Result := storeN 15 s

/-- STXD, 0x73 (R137). -/
def execStxd (s : State) : Result := .next ((s.memWrite s.index s.d).decReg s.x)

end Sys2Proof.Machine
end

