-- ==== Sys2Proof/Machine/RegisterOps.lean ====
section
/-! DEFINITION. The register operations (42_register_ops.md): INC, DEC, IRX, GLO, GHI, PLO, PHI. None writes a flag. -/

namespace Sys2Proof.Machine

/-- `R[N] <- R[N] + 1` (R140). -/
def incrementN (n : Nibble) (s : State) : Result := .next (s.incReg n)

/-- `R[N] <- R[N] - 1` (R141). -/
def decrementN (n : Nibble) (s : State) : Result := .next (s.decReg n)

/-- `D <- R[N][7:0]` (R143). -/
def getLow (n : Nibble) (s : State) : Result := .next (s.setD (lowByte (s.readReg n)))

/-- `D <- R[N][15:8]` (R144). -/
def getHigh (n : Nibble) (s : State) : Result := .next (s.setD (highByte (s.readReg n)))

/-- `R[N] <- R[N][15:8] : D` (R145). -/
def putLow (n : Nibble) (s : State) : Result := .next (s.writeReg n (withLowByte (s.readReg n) s.d))

/-- `R[N] <- D : R[N][7:0]` (R146). -/
def putHigh (n : Nibble) (s : State) : Result := .next (s.writeReg n (withHighByte (s.readReg n) s.d))

/-- INC 0, 0x10 (R140). -/
def execInc0 (s : State) : Result := incrementN 0 s

/-- INC 1, 0x11 (R140). -/
def execInc1 (s : State) : Result := incrementN 1 s

/-- INC 2, 0x12 (R140). -/
def execInc2 (s : State) : Result := incrementN 2 s

/-- INC 3, 0x13 (R140). -/
def execInc3 (s : State) : Result := incrementN 3 s

/-- INC 4, 0x14 (R140). -/
def execInc4 (s : State) : Result := incrementN 4 s

/-- INC 5, 0x15 (R140). -/
def execInc5 (s : State) : Result := incrementN 5 s

/-- INC 6, 0x16 (R140). -/
def execInc6 (s : State) : Result := incrementN 6 s

/-- INC 7, 0x17 (R140). -/
def execInc7 (s : State) : Result := incrementN 7 s

/-- INC 8, 0x18 (R140). -/
def execInc8 (s : State) : Result := incrementN 8 s

/-- INC 9, 0x19 (R140). -/
def execInc9 (s : State) : Result := incrementN 9 s

/-- INC 10, 0x1A (R140). -/
def execInc10 (s : State) : Result := incrementN 10 s

/-- INC 11, 0x1B (R140). -/
def execInc11 (s : State) : Result := incrementN 11 s

/-- INC 12, 0x1C (R140). -/
def execInc12 (s : State) : Result := incrementN 12 s

/-- INC 13, 0x1D (R140). -/
def execInc13 (s : State) : Result := incrementN 13 s

/-- INC 14, 0x1E (R140). -/
def execInc14 (s : State) : Result := incrementN 14 s

/-- INC 15, 0x1F (R140). -/
def execInc15 (s : State) : Result := incrementN 15 s

/-- DEC 0, 0x20 (R141). -/
def execDec0 (s : State) : Result := decrementN 0 s

/-- DEC 1, 0x21 (R141). -/
def execDec1 (s : State) : Result := decrementN 1 s

/-- DEC 2, 0x22 (R141). -/
def execDec2 (s : State) : Result := decrementN 2 s

/-- DEC 3, 0x23 (R141). -/
def execDec3 (s : State) : Result := decrementN 3 s

/-- DEC 4, 0x24 (R141). -/
def execDec4 (s : State) : Result := decrementN 4 s

/-- DEC 5, 0x25 (R141). -/
def execDec5 (s : State) : Result := decrementN 5 s

/-- DEC 6, 0x26 (R141). -/
def execDec6 (s : State) : Result := decrementN 6 s

/-- DEC 7, 0x27 (R141). -/
def execDec7 (s : State) : Result := decrementN 7 s

/-- DEC 8, 0x28 (R141). -/
def execDec8 (s : State) : Result := decrementN 8 s

/-- DEC 9, 0x29 (R141). -/
def execDec9 (s : State) : Result := decrementN 9 s

/-- DEC 10, 0x2A (R141). -/
def execDec10 (s : State) : Result := decrementN 10 s

/-- DEC 11, 0x2B (R141). -/
def execDec11 (s : State) : Result := decrementN 11 s

/-- DEC 12, 0x2C (R141). -/
def execDec12 (s : State) : Result := decrementN 12 s

/-- DEC 13, 0x2D (R141). -/
def execDec13 (s : State) : Result := decrementN 13 s

/-- DEC 14, 0x2E (R141). -/
def execDec14 (s : State) : Result := decrementN 14 s

/-- DEC 15, 0x2F (R141). -/
def execDec15 (s : State) : Result := decrementN 15 s

/-- IRX, 0x60 (R142). -/
def execIrx (s : State) : Result := .next (s.incReg s.x)

/-- GLO 0, 0x80 (R143). -/
def execGlo0 (s : State) : Result := getLow 0 s

/-- GLO 1, 0x81 (R143). -/
def execGlo1 (s : State) : Result := getLow 1 s

/-- GLO 2, 0x82 (R143). -/
def execGlo2 (s : State) : Result := getLow 2 s

/-- GLO 3, 0x83 (R143). -/
def execGlo3 (s : State) : Result := getLow 3 s

/-- GLO 4, 0x84 (R143). -/
def execGlo4 (s : State) : Result := getLow 4 s

/-- GLO 5, 0x85 (R143). -/
def execGlo5 (s : State) : Result := getLow 5 s

/-- GLO 6, 0x86 (R143). -/
def execGlo6 (s : State) : Result := getLow 6 s

/-- GLO 7, 0x87 (R143). -/
def execGlo7 (s : State) : Result := getLow 7 s

/-- GLO 8, 0x88 (R143). -/
def execGlo8 (s : State) : Result := getLow 8 s

/-- GLO 9, 0x89 (R143). -/
def execGlo9 (s : State) : Result := getLow 9 s

/-- GLO 10, 0x8A (R143). -/
def execGlo10 (s : State) : Result := getLow 10 s

/-- GLO 11, 0x8B (R143). -/
def execGlo11 (s : State) : Result := getLow 11 s

/-- GLO 12, 0x8C (R143). -/
def execGlo12 (s : State) : Result := getLow 12 s

/-- GLO 13, 0x8D (R143). -/
def execGlo13 (s : State) : Result := getLow 13 s

/-- GLO 14, 0x8E (R143). -/
def execGlo14 (s : State) : Result := getLow 14 s

/-- GLO 15, 0x8F (R143). -/
def execGlo15 (s : State) : Result := getLow 15 s

/-- GHI 0, 0x90 (R144). -/
def execGhi0 (s : State) : Result := getHigh 0 s

/-- GHI 1, 0x91 (R144). -/
def execGhi1 (s : State) : Result := getHigh 1 s

/-- GHI 2, 0x92 (R144). -/
def execGhi2 (s : State) : Result := getHigh 2 s

/-- GHI 3, 0x93 (R144). -/
def execGhi3 (s : State) : Result := getHigh 3 s

/-- GHI 4, 0x94 (R144). -/
def execGhi4 (s : State) : Result := getHigh 4 s

/-- GHI 5, 0x95 (R144). -/
def execGhi5 (s : State) : Result := getHigh 5 s

/-- GHI 6, 0x96 (R144). -/
def execGhi6 (s : State) : Result := getHigh 6 s

/-- GHI 7, 0x97 (R144). -/
def execGhi7 (s : State) : Result := getHigh 7 s

/-- GHI 8, 0x98 (R144). -/
def execGhi8 (s : State) : Result := getHigh 8 s

/-- GHI 9, 0x99 (R144). -/
def execGhi9 (s : State) : Result := getHigh 9 s

/-- GHI 10, 0x9A (R144). -/
def execGhi10 (s : State) : Result := getHigh 10 s

/-- GHI 11, 0x9B (R144). -/
def execGhi11 (s : State) : Result := getHigh 11 s

/-- GHI 12, 0x9C (R144). -/
def execGhi12 (s : State) : Result := getHigh 12 s

/-- GHI 13, 0x9D (R144). -/
def execGhi13 (s : State) : Result := getHigh 13 s

/-- GHI 14, 0x9E (R144). -/
def execGhi14 (s : State) : Result := getHigh 14 s

/-- GHI 15, 0x9F (R144). -/
def execGhi15 (s : State) : Result := getHigh 15 s

/-- PLO 0, 0xA0 (R145). -/
def execPlo0 (s : State) : Result := putLow 0 s

/-- PLO 1, 0xA1 (R145). -/
def execPlo1 (s : State) : Result := putLow 1 s

/-- PLO 2, 0xA2 (R145). -/
def execPlo2 (s : State) : Result := putLow 2 s

/-- PLO 3, 0xA3 (R145). -/
def execPlo3 (s : State) : Result := putLow 3 s

/-- PLO 4, 0xA4 (R145). -/
def execPlo4 (s : State) : Result := putLow 4 s

/-- PLO 5, 0xA5 (R145). -/
def execPlo5 (s : State) : Result := putLow 5 s

/-- PLO 6, 0xA6 (R145). -/
def execPlo6 (s : State) : Result := putLow 6 s

/-- PLO 7, 0xA7 (R145). -/
def execPlo7 (s : State) : Result := putLow 7 s

/-- PLO 8, 0xA8 (R145). -/
def execPlo8 (s : State) : Result := putLow 8 s

/-- PLO 9, 0xA9 (R145). -/
def execPlo9 (s : State) : Result := putLow 9 s

/-- PLO 10, 0xAA (R145). -/
def execPlo10 (s : State) : Result := putLow 10 s

/-- PLO 11, 0xAB (R145). -/
def execPlo11 (s : State) : Result := putLow 11 s

/-- PLO 12, 0xAC (R145). -/
def execPlo12 (s : State) : Result := putLow 12 s

/-- PLO 13, 0xAD (R145). -/
def execPlo13 (s : State) : Result := putLow 13 s

/-- PLO 14, 0xAE (R145). -/
def execPlo14 (s : State) : Result := putLow 14 s

/-- PLO 15, 0xAF (R145). -/
def execPlo15 (s : State) : Result := putLow 15 s

/-- PHI 0, 0xB0 (R146). -/
def execPhi0 (s : State) : Result := putHigh 0 s

/-- PHI 1, 0xB1 (R146). -/
def execPhi1 (s : State) : Result := putHigh 1 s

/-- PHI 2, 0xB2 (R146). -/
def execPhi2 (s : State) : Result := putHigh 2 s

/-- PHI 3, 0xB3 (R146). -/
def execPhi3 (s : State) : Result := putHigh 3 s

/-- PHI 4, 0xB4 (R146). -/
def execPhi4 (s : State) : Result := putHigh 4 s

/-- PHI 5, 0xB5 (R146). -/
def execPhi5 (s : State) : Result := putHigh 5 s

/-- PHI 6, 0xB6 (R146). -/
def execPhi6 (s : State) : Result := putHigh 6 s

/-- PHI 7, 0xB7 (R146). -/
def execPhi7 (s : State) : Result := putHigh 7 s

/-- PHI 8, 0xB8 (R146). -/
def execPhi8 (s : State) : Result := putHigh 8 s

/-- PHI 9, 0xB9 (R146). -/
def execPhi9 (s : State) : Result := putHigh 9 s

/-- PHI 10, 0xBA (R146). -/
def execPhi10 (s : State) : Result := putHigh 10 s

/-- PHI 11, 0xBB (R146). -/
def execPhi11 (s : State) : Result := putHigh 11 s

/-- PHI 12, 0xBC (R146). -/
def execPhi12 (s : State) : Result := putHigh 12 s

/-- PHI 13, 0xBD (R146). -/
def execPhi13 (s : State) : Result := putHigh 13 s

/-- PHI 14, 0xBE (R146). -/
def execPhi14 (s : State) : Result := putHigh 14 s

/-- PHI 15, 0xBF (R146). -/
def execPhi15 (s : State) : Result := putHigh 15 s

end Sys2Proof.Machine
end

