-- ==== Sys2Proof/Machine/ShortBranch.lean ====
section
/-! DEFINITION. The short branches (45_short_branch.md). Each reads its operand byte at `R[P]` whether or not it
branches and writes nothing but `R[P]` and the bus latches. -/

namespace Sys2Proof.Machine

/-- `ShortBranch(cond)` (R185): the operand byte is read at `R[P]`; a taken branch replaces the low byte of that
same `R[P]`, so the target lies in the operand byte's page; an untaken one adds 1. -/
def shortBranch (cond : Bool) (a : Byte) (s : State) : Result :=
  .next ((s.readOperand a).setPc (if cond then withLowByte s.pc a else s.pc + 1))

/-- A short branch on an external flag: the flag is sampled once, and the branch is taken when it reads as
`level` (R190 to R193, R198 to R201). -/
def flagBranch (f : ExtFlag) (level : Bool) (a : Byte) (s : State) : Result :=
  shortBranch ((s.ef f).1 == level) a (s.ef f).2

/-- BR, 0x30 (R186). -/
def execBr (a : Byte) (s : State) : Result := shortBranch true a s

/-- BQ, 0x31 (R187). -/
def execBq (a : Byte) (s : State) : Result := shortBranch s.q a s

/-- BZ, 0x32 (R188). -/
def execBz (a : Byte) (s : State) : Result := shortBranch (s.d == 0) a s

/-- BDF, 0x33 (R189). -/
def execBdf (a : Byte) (s : State) : Result := shortBranch s.df a s

/-- B1, 0x34 (R190). -/
def execB1 (a : Byte) (s : State) : Result := flagBranch .ef1 true a s

/-- B2, 0x35 (R191). -/
def execB2 (a : Byte) (s : State) : Result := flagBranch .ef2 true a s

/-- B3, 0x36 (R192). -/
def execB3 (a : Byte) (s : State) : Result := flagBranch .ef3 true a s

/-- B4, 0x37 (R193). -/
def execB4 (a : Byte) (s : State) : Result := flagBranch .ef4 true a s

/-- SKP, 0x38 (R194). -/
def execSkp (a : Byte) (s : State) : Result := shortBranch false a s

/-- BNQ, 0x39 (R195). -/
def execBnq (a : Byte) (s : State) : Result := shortBranch (!s.q) a s

/-- BNZ, 0x3A (R196). -/
def execBnz (a : Byte) (s : State) : Result := shortBranch (s.d != 0) a s

/-- BNF, 0x3B (R197). -/
def execBnf (a : Byte) (s : State) : Result := shortBranch (!s.df) a s

/-- BN1, 0x3C (R198). -/
def execBn1 (a : Byte) (s : State) : Result := flagBranch .ef1 false a s

/-- BN2, 0x3D (R199). -/
def execBn2 (a : Byte) (s : State) : Result := flagBranch .ef2 false a s

/-- BN3, 0x3E (R200). -/
def execBn3 (a : Byte) (s : State) : Result := flagBranch .ef3 false a s

/-- BN4, 0x3F (R201). -/
def execBn4 (a : Byte) (s : State) : Result := flagBranch .ef4 false a s

end Sys2Proof.Machine
end

