-- ==== Sys2Proof/Syntax.lean ====
section
/-! DEFINITION. The instructions: one constructor per row of spec/opcode_table.json, that is per opcode byte
(30_encoding.md R95 to R98). The instructions with operand bytes stand first: Lean's runtime gives a constructor
with fields no tag above 244. A constructor carries the operand its format has (R90): an
immediate byte `k` (IMM), a short-branch address byte `a` (SBR), a 16-bit `target` (LBR), or nothing (OP); a
register or port number is part of the constructor, as it is part of the opcode. -/

namespace Sys2Proof

/-- An instruction of the 1802 (R2: all 256 opcode values, each with defined behaviour). -/
inductive Instr where
  -- the instructions with operand bytes (formats IMM, SBR, LBR)
  | br (a : Byte)
  | bq (a : Byte)
  | bz (a : Byte)
  | bdf (a : Byte)
  | b1 (a : Byte)
  | b2 (a : Byte)
  | b3 (a : Byte)
  | b4 (a : Byte)
  | skp (a : Byte)
  | bnq (a : Byte)
  | bnz (a : Byte)
  | bnf (a : Byte)
  | bn1 (a : Byte)
  | bn2 (a : Byte)
  | bn3 (a : Byte)
  | bn4 (a : Byte)
  | adci (k : Byte)
  | sdbi (k : Byte)
  | smbi (k : Byte)
  | lbr (target : Word)
  | lbq (target : Word)
  | lbz (target : Word)
  | lbdf (target : Word)
  | lbnq (target : Word)
  | lbnz (target : Word)
  | lbnf (target : Word)
  | ldi (k : Byte)
  | ori (k : Byte)
  | ani (k : Byte)
  | xri (k : Byte)
  | adi (k : Byte)
  | sdi (k : Byte)
  | smi (k : Byte)
  -- the one-byte instructions (format OP), by opcode
  | idl
  | ldn1
  | ldn2
  | ldn3
  | ldn4
  | ldn5
  | ldn6
  | ldn7
  | ldn8
  | ldn9
  | ldn10
  | ldn11
  | ldn12
  | ldn13
  | ldn14
  | ldn15
  | inc0
  | inc1
  | inc2
  | inc3
  | inc4
  | inc5
  | inc6
  | inc7
  | inc8
  | inc9
  | inc10
  | inc11
  | inc12
  | inc13
  | inc14
  | inc15
  | dec0
  | dec1
  | dec2
  | dec3
  | dec4
  | dec5
  | dec6
  | dec7
  | dec8
  | dec9
  | dec10
  | dec11
  | dec12
  | dec13
  | dec14
  | dec15
  | lda0
  | lda1
  | lda2
  | lda3
  | lda4
  | lda5
  | lda6
  | lda7
  | lda8
  | lda9
  | lda10
  | lda11
  | lda12
  | lda13
  | lda14
  | lda15
  | str0
  | str1
  | str2
  | str3
  | str4
  | str5
  | str6
  | str7
  | str8
  | str9
  | str10
  | str11
  | str12
  | str13
  | str14
  | str15
  | irx
  | out1
  | out2
  | out3
  | out4
  | out5
  | out6
  | out7
  | ill68
  | inp1
  | inp2
  | inp3
  | inp4
  | inp5
  | inp6
  | inp7
  | ret
  | dis
  | ldxa
  | stxd
  | adc
  | sdb
  | shrc
  | smb
  | sav
  | mark
  | req
  | seq
  | shlc
  | glo0
  | glo1
  | glo2
  | glo3
  | glo4
  | glo5
  | glo6
  | glo7
  | glo8
  | glo9
  | glo10
  | glo11
  | glo12
  | glo13
  | glo14
  | glo15
  | ghi0
  | ghi1
  | ghi2
  | ghi3
  | ghi4
  | ghi5
  | ghi6
  | ghi7
  | ghi8
  | ghi9
  | ghi10
  | ghi11
  | ghi12
  | ghi13
  | ghi14
  | ghi15
  | plo0
  | plo1
  | plo2
  | plo3
  | plo4
  | plo5
  | plo6
  | plo7
  | plo8
  | plo9
  | plo10
  | plo11
  | plo12
  | plo13
  | plo14
  | plo15
  | phi0
  | phi1
  | phi2
  | phi3
  | phi4
  | phi5
  | phi6
  | phi7
  | phi8
  | phi9
  | phi10
  | phi11
  | phi12
  | phi13
  | phi14
  | phi15
  | nop
  | lsnq
  | lsnz
  | lsnf
  | lskp
  | lsie
  | lsq
  | lsz
  | lsdf
  | sep0
  | sep1
  | sep2
  | sep3
  | sep4
  | sep5
  | sep6
  | sep7
  | sep8
  | sep9
  | sep10
  | sep11
  | sep12
  | sep13
  | sep14
  | sep15
  | sex0
  | sex1
  | sex2
  | sex3
  | sex4
  | sex5
  | sex6
  | sex7
  | sex8
  | sex9
  | sex10
  | sex11
  | sex12
  | sex13
  | sex14
  | sex15
  | ldx
  | or
  | and
  | xor
  | add
  | sd
  | shr
  | sm
  | shl
deriving DecidableEq, Repr

end Sys2Proof
end

