-- ==== Sys2Proof/Machine/Dispatch.lean ====
section
/-! DEFINITION. The dispatch of phase 2 (40_step.md R112): one arm per constructor, each a direct call of the
instruction's own meaning. No arm is refused. -/

namespace Sys2Proof.Machine

def exec (i : Instr) (s : State) : Host.Outcome State Fault Refusal :=
  match i with
  -- I = 0: LDN and IDL
  | .idl => Sys2Proof.Machine.execIdl s
  | .ldn1 => Sys2Proof.Machine.execLdn1 s
  | .ldn2 => Sys2Proof.Machine.execLdn2 s
  | .ldn3 => Sys2Proof.Machine.execLdn3 s
  | .ldn4 => Sys2Proof.Machine.execLdn4 s
  | .ldn5 => Sys2Proof.Machine.execLdn5 s
  | .ldn6 => Sys2Proof.Machine.execLdn6 s
  | .ldn7 => Sys2Proof.Machine.execLdn7 s
  | .ldn8 => Sys2Proof.Machine.execLdn8 s
  | .ldn9 => Sys2Proof.Machine.execLdn9 s
  | .ldn10 => Sys2Proof.Machine.execLdn10 s
  | .ldn11 => Sys2Proof.Machine.execLdn11 s
  | .ldn12 => Sys2Proof.Machine.execLdn12 s
  | .ldn13 => Sys2Proof.Machine.execLdn13 s
  | .ldn14 => Sys2Proof.Machine.execLdn14 s
  | .ldn15 => Sys2Proof.Machine.execLdn15 s
  -- I = 1: INC
  | .inc0 => Sys2Proof.Machine.execInc0 s
  | .inc1 => Sys2Proof.Machine.execInc1 s
  | .inc2 => Sys2Proof.Machine.execInc2 s
  | .inc3 => Sys2Proof.Machine.execInc3 s
  | .inc4 => Sys2Proof.Machine.execInc4 s
  | .inc5 => Sys2Proof.Machine.execInc5 s
  | .inc6 => Sys2Proof.Machine.execInc6 s
  | .inc7 => Sys2Proof.Machine.execInc7 s
  | .inc8 => Sys2Proof.Machine.execInc8 s
  | .inc9 => Sys2Proof.Machine.execInc9 s
  | .inc10 => Sys2Proof.Machine.execInc10 s
  | .inc11 => Sys2Proof.Machine.execInc11 s
  | .inc12 => Sys2Proof.Machine.execInc12 s
  | .inc13 => Sys2Proof.Machine.execInc13 s
  | .inc14 => Sys2Proof.Machine.execInc14 s
  | .inc15 => Sys2Proof.Machine.execInc15 s
  -- I = 2: DEC
  | .dec0 => Sys2Proof.Machine.execDec0 s
  | .dec1 => Sys2Proof.Machine.execDec1 s
  | .dec2 => Sys2Proof.Machine.execDec2 s
  | .dec3 => Sys2Proof.Machine.execDec3 s
  | .dec4 => Sys2Proof.Machine.execDec4 s
  | .dec5 => Sys2Proof.Machine.execDec5 s
  | .dec6 => Sys2Proof.Machine.execDec6 s
  | .dec7 => Sys2Proof.Machine.execDec7 s
  | .dec8 => Sys2Proof.Machine.execDec8 s
  | .dec9 => Sys2Proof.Machine.execDec9 s
  | .dec10 => Sys2Proof.Machine.execDec10 s
  | .dec11 => Sys2Proof.Machine.execDec11 s
  | .dec12 => Sys2Proof.Machine.execDec12 s
  | .dec13 => Sys2Proof.Machine.execDec13 s
  | .dec14 => Sys2Proof.Machine.execDec14 s
  | .dec15 => Sys2Proof.Machine.execDec15 s
  -- I = 3: short branches
  | .br a => Sys2Proof.Machine.execBr a s
  | .bq a => Sys2Proof.Machine.execBq a s
  | .bz a => Sys2Proof.Machine.execBz a s
  | .bdf a => Sys2Proof.Machine.execBdf a s
  | .b1 a => Sys2Proof.Machine.execB1 a s
  | .b2 a => Sys2Proof.Machine.execB2 a s
  | .b3 a => Sys2Proof.Machine.execB3 a s
  | .b4 a => Sys2Proof.Machine.execB4 a s
  | .skp a => Sys2Proof.Machine.execSkp a s
  | .bnq a => Sys2Proof.Machine.execBnq a s
  | .bnz a => Sys2Proof.Machine.execBnz a s
  | .bnf a => Sys2Proof.Machine.execBnf a s
  | .bn1 a => Sys2Proof.Machine.execBn1 a s
  | .bn2 a => Sys2Proof.Machine.execBn2 a s
  | .bn3 a => Sys2Proof.Machine.execBn3 a s
  | .bn4 a => Sys2Proof.Machine.execBn4 a s
  -- I = 4: LDA
  | .lda0 => Sys2Proof.Machine.execLda0 s
  | .lda1 => Sys2Proof.Machine.execLda1 s
  | .lda2 => Sys2Proof.Machine.execLda2 s
  | .lda3 => Sys2Proof.Machine.execLda3 s
  | .lda4 => Sys2Proof.Machine.execLda4 s
  | .lda5 => Sys2Proof.Machine.execLda5 s
  | .lda6 => Sys2Proof.Machine.execLda6 s
  | .lda7 => Sys2Proof.Machine.execLda7 s
  | .lda8 => Sys2Proof.Machine.execLda8 s
  | .lda9 => Sys2Proof.Machine.execLda9 s
  | .lda10 => Sys2Proof.Machine.execLda10 s
  | .lda11 => Sys2Proof.Machine.execLda11 s
  | .lda12 => Sys2Proof.Machine.execLda12 s
  | .lda13 => Sys2Proof.Machine.execLda13 s
  | .lda14 => Sys2Proof.Machine.execLda14 s
  | .lda15 => Sys2Proof.Machine.execLda15 s
  -- I = 5: STR
  | .str0 => Sys2Proof.Machine.execStr0 s
  | .str1 => Sys2Proof.Machine.execStr1 s
  | .str2 => Sys2Proof.Machine.execStr2 s
  | .str3 => Sys2Proof.Machine.execStr3 s
  | .str4 => Sys2Proof.Machine.execStr4 s
  | .str5 => Sys2Proof.Machine.execStr5 s
  | .str6 => Sys2Proof.Machine.execStr6 s
  | .str7 => Sys2Proof.Machine.execStr7 s
  | .str8 => Sys2Proof.Machine.execStr8 s
  | .str9 => Sys2Proof.Machine.execStr9 s
  | .str10 => Sys2Proof.Machine.execStr10 s
  | .str11 => Sys2Proof.Machine.execStr11 s
  | .str12 => Sys2Proof.Machine.execStr12 s
  | .str13 => Sys2Proof.Machine.execStr13 s
  | .str14 => Sys2Proof.Machine.execStr14 s
  | .str15 => Sys2Proof.Machine.execStr15 s
  -- I = 6: IRX, OUT, opcode 0x68, INP
  | .irx => Sys2Proof.Machine.execIrx s
  | .out1 => Sys2Proof.Machine.execOut1 s
  | .out2 => Sys2Proof.Machine.execOut2 s
  | .out3 => Sys2Proof.Machine.execOut3 s
  | .out4 => Sys2Proof.Machine.execOut4 s
  | .out5 => Sys2Proof.Machine.execOut5 s
  | .out6 => Sys2Proof.Machine.execOut6 s
  | .out7 => Sys2Proof.Machine.execOut7 s
  | .ill68 => Sys2Proof.Machine.execIll68 s
  | .inp1 => Sys2Proof.Machine.execInp1 s
  | .inp2 => Sys2Proof.Machine.execInp2 s
  | .inp3 => Sys2Proof.Machine.execInp3 s
  | .inp4 => Sys2Proof.Machine.execInp4 s
  | .inp5 => Sys2Proof.Machine.execInp5 s
  | .inp6 => Sys2Proof.Machine.execInp6 s
  | .inp7 => Sys2Proof.Machine.execInp7 s
  -- I = 7: the group of I = 7
  | .ret => Sys2Proof.Machine.execRet s
  | .dis => Sys2Proof.Machine.execDis s
  | .ldxa => Sys2Proof.Machine.execLdxa s
  | .stxd => Sys2Proof.Machine.execStxd s
  | .adc => Sys2Proof.Machine.execAdc s
  | .sdb => Sys2Proof.Machine.execSdb s
  | .shrc => Sys2Proof.Machine.execShrc s
  | .smb => Sys2Proof.Machine.execSmb s
  | .sav => Sys2Proof.Machine.execSav s
  | .mark => Sys2Proof.Machine.execMark s
  | .req => Sys2Proof.Machine.execReq s
  | .seq => Sys2Proof.Machine.execSeq s
  | .adci k => Sys2Proof.Machine.execAdci k s
  | .sdbi k => Sys2Proof.Machine.execSdbi k s
  | .shlc => Sys2Proof.Machine.execShlc s
  | .smbi k => Sys2Proof.Machine.execSmbi k s
  -- I = 8: GLO
  | .glo0 => Sys2Proof.Machine.execGlo0 s
  | .glo1 => Sys2Proof.Machine.execGlo1 s
  | .glo2 => Sys2Proof.Machine.execGlo2 s
  | .glo3 => Sys2Proof.Machine.execGlo3 s
  | .glo4 => Sys2Proof.Machine.execGlo4 s
  | .glo5 => Sys2Proof.Machine.execGlo5 s
  | .glo6 => Sys2Proof.Machine.execGlo6 s
  | .glo7 => Sys2Proof.Machine.execGlo7 s
  | .glo8 => Sys2Proof.Machine.execGlo8 s
  | .glo9 => Sys2Proof.Machine.execGlo9 s
  | .glo10 => Sys2Proof.Machine.execGlo10 s
  | .glo11 => Sys2Proof.Machine.execGlo11 s
  | .glo12 => Sys2Proof.Machine.execGlo12 s
  | .glo13 => Sys2Proof.Machine.execGlo13 s
  | .glo14 => Sys2Proof.Machine.execGlo14 s
  | .glo15 => Sys2Proof.Machine.execGlo15 s
  -- I = 9: GHI
  | .ghi0 => Sys2Proof.Machine.execGhi0 s
  | .ghi1 => Sys2Proof.Machine.execGhi1 s
  | .ghi2 => Sys2Proof.Machine.execGhi2 s
  | .ghi3 => Sys2Proof.Machine.execGhi3 s
  | .ghi4 => Sys2Proof.Machine.execGhi4 s
  | .ghi5 => Sys2Proof.Machine.execGhi5 s
  | .ghi6 => Sys2Proof.Machine.execGhi6 s
  | .ghi7 => Sys2Proof.Machine.execGhi7 s
  | .ghi8 => Sys2Proof.Machine.execGhi8 s
  | .ghi9 => Sys2Proof.Machine.execGhi9 s
  | .ghi10 => Sys2Proof.Machine.execGhi10 s
  | .ghi11 => Sys2Proof.Machine.execGhi11 s
  | .ghi12 => Sys2Proof.Machine.execGhi12 s
  | .ghi13 => Sys2Proof.Machine.execGhi13 s
  | .ghi14 => Sys2Proof.Machine.execGhi14 s
  | .ghi15 => Sys2Proof.Machine.execGhi15 s
  -- I = A: PLO
  | .plo0 => Sys2Proof.Machine.execPlo0 s
  | .plo1 => Sys2Proof.Machine.execPlo1 s
  | .plo2 => Sys2Proof.Machine.execPlo2 s
  | .plo3 => Sys2Proof.Machine.execPlo3 s
  | .plo4 => Sys2Proof.Machine.execPlo4 s
  | .plo5 => Sys2Proof.Machine.execPlo5 s
  | .plo6 => Sys2Proof.Machine.execPlo6 s
  | .plo7 => Sys2Proof.Machine.execPlo7 s
  | .plo8 => Sys2Proof.Machine.execPlo8 s
  | .plo9 => Sys2Proof.Machine.execPlo9 s
  | .plo10 => Sys2Proof.Machine.execPlo10 s
  | .plo11 => Sys2Proof.Machine.execPlo11 s
  | .plo12 => Sys2Proof.Machine.execPlo12 s
  | .plo13 => Sys2Proof.Machine.execPlo13 s
  | .plo14 => Sys2Proof.Machine.execPlo14 s
  | .plo15 => Sys2Proof.Machine.execPlo15 s
  -- I = B: PHI
  | .phi0 => Sys2Proof.Machine.execPhi0 s
  | .phi1 => Sys2Proof.Machine.execPhi1 s
  | .phi2 => Sys2Proof.Machine.execPhi2 s
  | .phi3 => Sys2Proof.Machine.execPhi3 s
  | .phi4 => Sys2Proof.Machine.execPhi4 s
  | .phi5 => Sys2Proof.Machine.execPhi5 s
  | .phi6 => Sys2Proof.Machine.execPhi6 s
  | .phi7 => Sys2Proof.Machine.execPhi7 s
  | .phi8 => Sys2Proof.Machine.execPhi8 s
  | .phi9 => Sys2Proof.Machine.execPhi9 s
  | .phi10 => Sys2Proof.Machine.execPhi10 s
  | .phi11 => Sys2Proof.Machine.execPhi11 s
  | .phi12 => Sys2Proof.Machine.execPhi12 s
  | .phi13 => Sys2Proof.Machine.execPhi13 s
  | .phi14 => Sys2Proof.Machine.execPhi14 s
  | .phi15 => Sys2Proof.Machine.execPhi15 s
  -- I = C: long branches, long skips, NOP
  | .lbr target => Sys2Proof.Machine.execLbr target s
  | .lbq target => Sys2Proof.Machine.execLbq target s
  | .lbz target => Sys2Proof.Machine.execLbz target s
  | .lbdf target => Sys2Proof.Machine.execLbdf target s
  | .nop => Sys2Proof.Machine.execNop s
  | .lsnq => Sys2Proof.Machine.execLsnq s
  | .lsnz => Sys2Proof.Machine.execLsnz s
  | .lsnf => Sys2Proof.Machine.execLsnf s
  | .lskp => Sys2Proof.Machine.execLskp s
  | .lbnq target => Sys2Proof.Machine.execLbnq target s
  | .lbnz target => Sys2Proof.Machine.execLbnz target s
  | .lbnf target => Sys2Proof.Machine.execLbnf target s
  | .lsie => Sys2Proof.Machine.execLsie s
  | .lsq => Sys2Proof.Machine.execLsq s
  | .lsz => Sys2Proof.Machine.execLsz s
  | .lsdf => Sys2Proof.Machine.execLsdf s
  -- I = D: SEP
  | .sep0 => Sys2Proof.Machine.execSep0 s
  | .sep1 => Sys2Proof.Machine.execSep1 s
  | .sep2 => Sys2Proof.Machine.execSep2 s
  | .sep3 => Sys2Proof.Machine.execSep3 s
  | .sep4 => Sys2Proof.Machine.execSep4 s
  | .sep5 => Sys2Proof.Machine.execSep5 s
  | .sep6 => Sys2Proof.Machine.execSep6 s
  | .sep7 => Sys2Proof.Machine.execSep7 s
  | .sep8 => Sys2Proof.Machine.execSep8 s
  | .sep9 => Sys2Proof.Machine.execSep9 s
  | .sep10 => Sys2Proof.Machine.execSep10 s
  | .sep11 => Sys2Proof.Machine.execSep11 s
  | .sep12 => Sys2Proof.Machine.execSep12 s
  | .sep13 => Sys2Proof.Machine.execSep13 s
  | .sep14 => Sys2Proof.Machine.execSep14 s
  | .sep15 => Sys2Proof.Machine.execSep15 s
  -- I = E: SEX
  | .sex0 => Sys2Proof.Machine.execSex0 s
  | .sex1 => Sys2Proof.Machine.execSex1 s
  | .sex2 => Sys2Proof.Machine.execSex2 s
  | .sex3 => Sys2Proof.Machine.execSex3 s
  | .sex4 => Sys2Proof.Machine.execSex4 s
  | .sex5 => Sys2Proof.Machine.execSex5 s
  | .sex6 => Sys2Proof.Machine.execSex6 s
  | .sex7 => Sys2Proof.Machine.execSex7 s
  | .sex8 => Sys2Proof.Machine.execSex8 s
  | .sex9 => Sys2Proof.Machine.execSex9 s
  | .sex10 => Sys2Proof.Machine.execSex10 s
  | .sex11 => Sys2Proof.Machine.execSex11 s
  | .sex12 => Sys2Proof.Machine.execSex12 s
  | .sex13 => Sys2Proof.Machine.execSex13 s
  | .sex14 => Sys2Proof.Machine.execSex14 s
  | .sex15 => Sys2Proof.Machine.execSex15 s
  -- I = F: the group of I = F
  | .ldx => Sys2Proof.Machine.execLdx s
  | .or => Sys2Proof.Machine.execOr s
  | .and => Sys2Proof.Machine.execAnd s
  | .xor => Sys2Proof.Machine.execXor s
  | .add => Sys2Proof.Machine.execAdd s
  | .sd => Sys2Proof.Machine.execSd s
  | .shr => Sys2Proof.Machine.execShr s
  | .sm => Sys2Proof.Machine.execSm s
  | .ldi k => Sys2Proof.Machine.execLdi k s
  | .ori k => Sys2Proof.Machine.execOri k s
  | .ani k => Sys2Proof.Machine.execAni k s
  | .xri k => Sys2Proof.Machine.execXri k s
  | .adi k => Sys2Proof.Machine.execAdi k s
  | .sdi k => Sys2Proof.Machine.execSdi k s
  | .shl => Sys2Proof.Machine.execShl s
  | .smi k => Sys2Proof.Machine.execSmi k s

end Sys2Proof.Machine
end

