-- ==== Sys2Proof/WellFormed.lean ====
section
/-! DEFINITION. What is well formed. The parameters obey 00_scope.md R6, R7 (three checks); the bytes of an
instruction are as many as its opcode asks for (30_encoding.md R94). A term of `Instr` needs no check of its
own: its operands are a byte or a word, and every value of either is legal (R66, R93). -/

namespace Sys2Proof

/-- R6, first bound: `0 <= MEM_SIZE <= 65536`. -/
def Config.memSizeOk (c : Config) : Bool := decide (c.memSize ≤ 65536)

/-- R7: `FRAME_CYCLES >= INT_LEAD = 29`. -/
def Config.frameCyclesOk (c : Config) : Bool := decide (Config.intLead ≤ c.frameCycles)

/-- Parameters a machine may have (R6, R7); `FLOAT_BUS` is any byte. -/
def Config.wf (c : Config) : Bool := c.memSizeOk && c.frameCyclesOk

/-- How many bytes an instruction with this opcode has (R94). 0xC8 (LSKP) counts as one byte, as R221 and
opcode_table.json do; R94 also lists it among the three-byte opcodes and calls the two descriptions the same
behaviour (notes/assumptions/9.md). -/
def opcodeLength (op : Byte) : Nat :=
  if 0x30 ≤ op ∧ op ≤ 0x3F then 2
  else if op ∈ [0x7C, 0x7D, 0x7F, 0xF8, 0xF9, 0xFA, 0xFB, 0xFC, 0xFD, 0xFF] then 2
  else if op ∈ [0xC0, 0xC1, 0xC2, 0xC3, 0xC9, 0xCA, 0xCB] then 3
  else 1

/-- The bytes of exactly one instruction: an opcode and as many operand bytes as R94 gives it. -/
def wellFormedBytes : List Byte → Bool
  | [] => false
  | op :: operands => operands.length + 1 == opcodeLength op

end Sys2Proof
end

