-- ==== Sys2Proof/Decode.lean ====
section
/-! DEFINITION. The part named `instruction_decoder` (00_scope.md R11): from bytes to an instruction, and back.
The decoder is the 16 x 16 grouped table of 30_encoding.md R95, R96: the high nibble `I` of the opcode picks a
group, the low nibble `N` an entry of it, and the entry says which operand bytes follow (R90). Every opcode byte
selects an entry (R97); the only thing `decode` refuses is a byte list that ends inside an instruction. -/

namespace Sys2Proof

/-- `I = opcode[7:4]` (R91). -/
def opcodeI (op : Byte) : Nibble := op.extractLsb' 4 4

/-- `N = opcode[3:0]` (R91). -/
def opcodeN (op : Byte) : Nibble := op.extractLsb' 0 4

/-- The instruction of opcode `0000 nnnn`: LDN N for N in 1..15, and IDL for N = 0 (R95, R98, R131). -/
def Instr.ldnOf (n : Nibble) : Instr :=
  (#v[
    .idl, .ldn1, .ldn2, .ldn3, .ldn4, .ldn5, .ldn6, .ldn7, .ldn8, .ldn9, .ldn10, .ldn11, .ldn12,
    .ldn13, .ldn14, .ldn15] : Vector Instr 16)[n.toNat]'(n.isLt)

/-- The instruction of INC N, opcode `0001 nnnn` (R140). -/
def Instr.incOf (n : Nibble) : Instr :=
  (#v[
    .inc0, .inc1, .inc2, .inc3, .inc4, .inc5, .inc6, .inc7, .inc8, .inc9, .inc10, .inc11, .inc12,
    .inc13, .inc14, .inc15] : Vector Instr 16)[n.toNat]'(n.isLt)

/-- The instruction of DEC N, opcode `0010 nnnn` (R141). -/
def Instr.decOf (n : Nibble) : Instr :=
  (#v[
    .dec0, .dec1, .dec2, .dec3, .dec4, .dec5, .dec6, .dec7, .dec8, .dec9, .dec10, .dec11, .dec12,
    .dec13, .dec14, .dec15] : Vector Instr 16)[n.toNat]'(n.isLt)

/-- The instruction of LDA N, opcode `0100 nnnn` (R132). -/
def Instr.ldaOf (n : Nibble) : Instr :=
  (#v[
    .lda0, .lda1, .lda2, .lda3, .lda4, .lda5, .lda6, .lda7, .lda8, .lda9, .lda10, .lda11, .lda12,
    .lda13, .lda14, .lda15] : Vector Instr 16)[n.toNat]'(n.isLt)

/-- The instruction of STR N, opcode `0101 nnnn` (R136). -/
def Instr.strOf (n : Nibble) : Instr :=
  (#v[
    .str0, .str1, .str2, .str3, .str4, .str5, .str6, .str7, .str8, .str9, .str10, .str11, .str12,
    .str13, .str14, .str15] : Vector Instr 16)[n.toNat]'(n.isLt)

/-- The instruction of GLO N, opcode `1000 nnnn` (R143). -/
def Instr.gloOf (n : Nibble) : Instr :=
  (#v[
    .glo0, .glo1, .glo2, .glo3, .glo4, .glo5, .glo6, .glo7, .glo8, .glo9, .glo10, .glo11, .glo12,
    .glo13, .glo14, .glo15] : Vector Instr 16)[n.toNat]'(n.isLt)

/-- The instruction of GHI N, opcode `1001 nnnn` (R144). -/
def Instr.ghiOf (n : Nibble) : Instr :=
  (#v[
    .ghi0, .ghi1, .ghi2, .ghi3, .ghi4, .ghi5, .ghi6, .ghi7, .ghi8, .ghi9, .ghi10, .ghi11, .ghi12,
    .ghi13, .ghi14, .ghi15] : Vector Instr 16)[n.toNat]'(n.isLt)

/-- The instruction of PLO N, opcode `1010 nnnn` (R145). -/
def Instr.ploOf (n : Nibble) : Instr :=
  (#v[
    .plo0, .plo1, .plo2, .plo3, .plo4, .plo5, .plo6, .plo7, .plo8, .plo9, .plo10, .plo11, .plo12,
    .plo13, .plo14, .plo15] : Vector Instr 16)[n.toNat]'(n.isLt)

/-- The instruction of PHI N, opcode `1011 nnnn` (R146). -/
def Instr.phiOf (n : Nibble) : Instr :=
  (#v[
    .phi0, .phi1, .phi2, .phi3, .phi4, .phi5, .phi6, .phi7, .phi8, .phi9, .phi10, .phi11, .phi12,
    .phi13, .phi14, .phi15] : Vector Instr 16)[n.toNat]'(n.isLt)

/-- The instruction of SEP N, opcode `1101 nnnn` (R240). -/
def Instr.sepOf (n : Nibble) : Instr :=
  (#v[
    .sep0, .sep1, .sep2, .sep3, .sep4, .sep5, .sep6, .sep7, .sep8, .sep9, .sep10, .sep11, .sep12,
    .sep13, .sep14, .sep15] : Vector Instr 16)[n.toNat]'(n.isLt)

/-- The instruction of SEX N, opcode `1110 nnnn` (R241). -/
def Instr.sexOf (n : Nibble) : Instr :=
  (#v[
    .sex0, .sex1, .sex2, .sex3, .sex4, .sex5, .sex6, .sex7, .sex8, .sex9, .sex10, .sex11, .sex12,
    .sex13, .sex14, .sex15] : Vector Instr 16)[n.toNat]'(n.isLt)

/-- The instruction of opcode `0110 0nnn`: OUT n for n in 1..7, and IRX for n = 0 (R92, R142, R256). -/
def Instr.outOf (n : PortNumber) : Instr :=
  (#v[.irx, .out1, .out2, .out3, .out4, .out5, .out6, .out7] : Vector Instr 8)[n.toNat]'(n.isLt)

/-- The instruction of opcode `0110 1nnn`: INP n for n in 1..7, and the unassigned opcode 0x68 for n = 0
(R92, R239, R257). -/
def Instr.inpOf (n : PortNumber) : Instr :=
  (#v[.ill68, .inp1, .inp2, .inp3, .inp4, .inp5, .inp6, .inp7] : Vector Instr 8)[n.toNat]'(n.isLt)

/-- An entry of the opcode map: the instruction, waiting for the operand bytes of its format (R90). -/
inductive Entry where
  /-- Format OP: one byte. -/
  | op (i : Instr)
  /-- Formats IMM and SBR: one operand byte. -/
  | byte (f : Byte → Instr)
  /-- Format LBR: two operand bytes, high byte first (20_memory.md R65). -/
  | word (f : Word → Instr)

/-- The sub-opcodes of `I` = 3 (R96, column 0x3N). -/
def group3 (n : Nibble) : Entry :=
  (#v[
    .byte .br, .byte .bq, .byte .bz, .byte .bdf, .byte .b1, .byte .b2, .byte .b3, .byte .b4,
    .byte .skp, .byte .bnq, .byte .bnz, .byte .bnf, .byte .bn1, .byte .bn2, .byte .bn3, .byte .bn4] : Vector Entry 16)[n.toNat]'(n.isLt)

/-- The sub-opcodes of `I` = 7 (R96, column 0x7N). -/
def group7 (n : Nibble) : Entry :=
  (#v[
    .op .ret, .op .dis, .op .ldxa, .op .stxd, .op .adc, .op .sdb, .op .shrc, .op .smb, .op .sav,
    .op .mark, .op .req, .op .seq, .byte .adci, .byte .sdbi, .op .shlc, .byte .smbi] : Vector Entry 16)[n.toNat]'(n.isLt)

/-- The sub-opcodes of `I` = C (R96, column 0xCN). -/
def groupC (n : Nibble) : Entry :=
  (#v[
    .word .lbr, .word .lbq, .word .lbz, .word .lbdf, .op .nop, .op .lsnq, .op .lsnz, .op .lsnf,
    .op .lskp, .word .lbnq, .word .lbnz, .word .lbnf, .op .lsie, .op .lsq, .op .lsz, .op .lsdf] : Vector Entry 16)[n.toNat]'(n.isLt)

/-- The sub-opcodes of `I` = F (R96, column 0xFN). -/
def groupF (n : Nibble) : Entry :=
  (#v[
    .op .ldx, .op .or, .op .and, .op .xor, .op .add, .op .sd, .op .shr, .op .sm, .byte .ldi,
    .byte .ori, .byte .ani, .byte .xri, .byte .adi, .byte .sdi, .op .shl, .byte .smi] : Vector Entry 16)[n.toNat]'(n.isLt)

/-- `I` = 6: `N[3]` selects output or input, `N[2:0]` is the port number (R92). -/
def group6 (n : Nibble) : Entry :=
  if n.getLsbD 3 then .op (Instr.inpOf (n.extractLsb' 0 3)) else .op (Instr.outOf (n.extractLsb' 0 3))

/-- The opcode map by high nibble (R95). -/
def entryOf (op : Byte) : Entry :=
  let n := opcodeN op
  (#v[.op (Instr.ldnOf n), .op (Instr.incOf n), .op (Instr.decOf n), group3 n,
    .op (Instr.ldaOf n), .op (Instr.strOf n), group6 n, group7 n,
    .op (Instr.gloOf n), .op (Instr.ghiOf n), .op (Instr.ploOf n), .op (Instr.phiOf n),
    groupC n, .op (Instr.sepOf n), .op (Instr.sexOf n), groupF n] : Vector Entry 16)[(opcodeI op).toNat]'((opcodeI op).isLt)

/-- The instruction whose first three bytes are `op`, `b1`, `b2`: total on bytes (R97). A shorter instruction
ignores the bytes it does not have. -/
def decodeBytes (op b1 b2 : Byte) : Instr :=
  match entryOf op with
  | .op i => i
  | .byte f => f b1
  | .word f => f (b1 ++ b2)

/-- Why a list of bytes is no instruction: it ends too early. No opcode is refused (R98). -/
inductive DecodeError where
  /-- There is no byte at all. -/
  | noOpcode
  /-- The bytes end before the operand bytes the opcode asks for (R94). -/
  | missingOperand (opcode : Byte)
deriving DecidableEq, Repr

/-- The instruction at the head of a list of bytes, and the bytes after it. -/
def decode : List Byte → Except DecodeError (Instr × List Byte)
  | [] => .error .noOpcode
  | op :: rest =>
    match entryOf op, rest with
    | .op i, rest => .ok (i, rest)
    | .byte f, b1 :: rest => .ok (f b1, rest)
    | .word f, b1 :: b2 :: rest => .ok (f (b1 ++ b2), rest)
    | _, _ => .error (.missingOperand op)

/-! The encoder, written from the encoding line of each instruction's own rule. -/

/-- The bytes of a long branch: the opcode, then the target with its high byte first (R210, R65). -/
def encodeLong (op : Byte) (target : Word) : List Byte :=
  [op, target.extractLsb' 8 8, target.extractLsb' 0 8]

/-- The bytes of an instruction (R90, and the encoding of each rule of files 41 to 48). -/
def encode : Instr → List Byte
  | .idl => [0x00#8]
  | .ldn1 => [0x01#8]
  | .ldn2 => [0x02#8]
  | .ldn3 => [0x03#8]
  | .ldn4 => [0x04#8]
  | .ldn5 => [0x05#8]
  | .ldn6 => [0x06#8]
  | .ldn7 => [0x07#8]
  | .ldn8 => [0x08#8]
  | .ldn9 => [0x09#8]
  | .ldn10 => [0x0A#8]
  | .ldn11 => [0x0B#8]
  | .ldn12 => [0x0C#8]
  | .ldn13 => [0x0D#8]
  | .ldn14 => [0x0E#8]
  | .ldn15 => [0x0F#8]
  | .inc0 => [0x10#8]
  | .inc1 => [0x11#8]
  | .inc2 => [0x12#8]
  | .inc3 => [0x13#8]
  | .inc4 => [0x14#8]
  | .inc5 => [0x15#8]
  | .inc6 => [0x16#8]
  | .inc7 => [0x17#8]
  | .inc8 => [0x18#8]
  | .inc9 => [0x19#8]
  | .inc10 => [0x1A#8]
  | .inc11 => [0x1B#8]
  | .inc12 => [0x1C#8]
  | .inc13 => [0x1D#8]
  | .inc14 => [0x1E#8]
  | .inc15 => [0x1F#8]
  | .dec0 => [0x20#8]
  | .dec1 => [0x21#8]
  | .dec2 => [0x22#8]
  | .dec3 => [0x23#8]
  | .dec4 => [0x24#8]
  | .dec5 => [0x25#8]
  | .dec6 => [0x26#8]
  | .dec7 => [0x27#8]
  | .dec8 => [0x28#8]
  | .dec9 => [0x29#8]
  | .dec10 => [0x2A#8]
  | .dec11 => [0x2B#8]
  | .dec12 => [0x2C#8]
  | .dec13 => [0x2D#8]
  | .dec14 => [0x2E#8]
  | .dec15 => [0x2F#8]
  | .br a => [0x30#8, a]
  | .bq a => [0x31#8, a]
  | .bz a => [0x32#8, a]
  | .bdf a => [0x33#8, a]
  | .b1 a => [0x34#8, a]
  | .b2 a => [0x35#8, a]
  | .b3 a => [0x36#8, a]
  | .b4 a => [0x37#8, a]
  | .skp a => [0x38#8, a]
  | .bnq a => [0x39#8, a]
  | .bnz a => [0x3A#8, a]
  | .bnf a => [0x3B#8, a]
  | .bn1 a => [0x3C#8, a]
  | .bn2 a => [0x3D#8, a]
  | .bn3 a => [0x3E#8, a]
  | .bn4 a => [0x3F#8, a]
  | .lda0 => [0x40#8]
  | .lda1 => [0x41#8]
  | .lda2 => [0x42#8]
  | .lda3 => [0x43#8]
  | .lda4 => [0x44#8]
  | .lda5 => [0x45#8]
  | .lda6 => [0x46#8]
  | .lda7 => [0x47#8]
  | .lda8 => [0x48#8]
  | .lda9 => [0x49#8]
  | .lda10 => [0x4A#8]
  | .lda11 => [0x4B#8]
  | .lda12 => [0x4C#8]
  | .lda13 => [0x4D#8]
  | .lda14 => [0x4E#8]
  | .lda15 => [0x4F#8]
  | .str0 => [0x50#8]
  | .str1 => [0x51#8]
  | .str2 => [0x52#8]
  | .str3 => [0x53#8]
  | .str4 => [0x54#8]
  | .str5 => [0x55#8]
  | .str6 => [0x56#8]
  | .str7 => [0x57#8]
  | .str8 => [0x58#8]
  | .str9 => [0x59#8]
  | .str10 => [0x5A#8]
  | .str11 => [0x5B#8]
  | .str12 => [0x5C#8]
  | .str13 => [0x5D#8]
  | .str14 => [0x5E#8]
  | .str15 => [0x5F#8]
  | .irx => [0x60#8]
  | .out1 => [0x61#8]
  | .out2 => [0x62#8]
  | .out3 => [0x63#8]
  | .out4 => [0x64#8]
  | .out5 => [0x65#8]
  | .out6 => [0x66#8]
  | .out7 => [0x67#8]
  | .ill68 => [0x68#8]
  | .inp1 => [0x69#8]
  | .inp2 => [0x6A#8]
  | .inp3 => [0x6B#8]
  | .inp4 => [0x6C#8]
  | .inp5 => [0x6D#8]
  | .inp6 => [0x6E#8]
  | .inp7 => [0x6F#8]
  | .ret => [0x70#8]
  | .dis => [0x71#8]
  | .ldxa => [0x72#8]
  | .stxd => [0x73#8]
  | .adc => [0x74#8]
  | .sdb => [0x75#8]
  | .shrc => [0x76#8]
  | .smb => [0x77#8]
  | .sav => [0x78#8]
  | .mark => [0x79#8]
  | .req => [0x7A#8]
  | .seq => [0x7B#8]
  | .adci k => [0x7C#8, k]
  | .sdbi k => [0x7D#8, k]
  | .shlc => [0x7E#8]
  | .smbi k => [0x7F#8, k]
  | .glo0 => [0x80#8]
  | .glo1 => [0x81#8]
  | .glo2 => [0x82#8]
  | .glo3 => [0x83#8]
  | .glo4 => [0x84#8]
  | .glo5 => [0x85#8]
  | .glo6 => [0x86#8]
  | .glo7 => [0x87#8]
  | .glo8 => [0x88#8]
  | .glo9 => [0x89#8]
  | .glo10 => [0x8A#8]
  | .glo11 => [0x8B#8]
  | .glo12 => [0x8C#8]
  | .glo13 => [0x8D#8]
  | .glo14 => [0x8E#8]
  | .glo15 => [0x8F#8]
  | .ghi0 => [0x90#8]
  | .ghi1 => [0x91#8]
  | .ghi2 => [0x92#8]
  | .ghi3 => [0x93#8]
  | .ghi4 => [0x94#8]
  | .ghi5 => [0x95#8]
  | .ghi6 => [0x96#8]
  | .ghi7 => [0x97#8]
  | .ghi8 => [0x98#8]
  | .ghi9 => [0x99#8]
  | .ghi10 => [0x9A#8]
  | .ghi11 => [0x9B#8]
  | .ghi12 => [0x9C#8]
  | .ghi13 => [0x9D#8]
  | .ghi14 => [0x9E#8]
  | .ghi15 => [0x9F#8]
  | .plo0 => [0xA0#8]
  | .plo1 => [0xA1#8]
  | .plo2 => [0xA2#8]
  | .plo3 => [0xA3#8]
  | .plo4 => [0xA4#8]
  | .plo5 => [0xA5#8]
  | .plo6 => [0xA6#8]
  | .plo7 => [0xA7#8]
  | .plo8 => [0xA8#8]
  | .plo9 => [0xA9#8]
  | .plo10 => [0xAA#8]
  | .plo11 => [0xAB#8]
  | .plo12 => [0xAC#8]
  | .plo13 => [0xAD#8]
  | .plo14 => [0xAE#8]
  | .plo15 => [0xAF#8]
  | .phi0 => [0xB0#8]
  | .phi1 => [0xB1#8]
  | .phi2 => [0xB2#8]
  | .phi3 => [0xB3#8]
  | .phi4 => [0xB4#8]
  | .phi5 => [0xB5#8]
  | .phi6 => [0xB6#8]
  | .phi7 => [0xB7#8]
  | .phi8 => [0xB8#8]
  | .phi9 => [0xB9#8]
  | .phi10 => [0xBA#8]
  | .phi11 => [0xBB#8]
  | .phi12 => [0xBC#8]
  | .phi13 => [0xBD#8]
  | .phi14 => [0xBE#8]
  | .phi15 => [0xBF#8]
  | .lbr target => encodeLong 0xC0#8 target
  | .lbq target => encodeLong 0xC1#8 target
  | .lbz target => encodeLong 0xC2#8 target
  | .lbdf target => encodeLong 0xC3#8 target
  | .nop => [0xC4#8]
  | .lsnq => [0xC5#8]
  | .lsnz => [0xC6#8]
  | .lsnf => [0xC7#8]
  | .lskp => [0xC8#8]
  | .lbnq target => encodeLong 0xC9#8 target
  | .lbnz target => encodeLong 0xCA#8 target
  | .lbnf target => encodeLong 0xCB#8 target
  | .lsie => [0xCC#8]
  | .lsq => [0xCD#8]
  | .lsz => [0xCE#8]
  | .lsdf => [0xCF#8]
  | .sep0 => [0xD0#8]
  | .sep1 => [0xD1#8]
  | .sep2 => [0xD2#8]
  | .sep3 => [0xD3#8]
  | .sep4 => [0xD4#8]
  | .sep5 => [0xD5#8]
  | .sep6 => [0xD6#8]
  | .sep7 => [0xD7#8]
  | .sep8 => [0xD8#8]
  | .sep9 => [0xD9#8]
  | .sep10 => [0xDA#8]
  | .sep11 => [0xDB#8]
  | .sep12 => [0xDC#8]
  | .sep13 => [0xDD#8]
  | .sep14 => [0xDE#8]
  | .sep15 => [0xDF#8]
  | .sex0 => [0xE0#8]
  | .sex1 => [0xE1#8]
  | .sex2 => [0xE2#8]
  | .sex3 => [0xE3#8]
  | .sex4 => [0xE4#8]
  | .sex5 => [0xE5#8]
  | .sex6 => [0xE6#8]
  | .sex7 => [0xE7#8]
  | .sex8 => [0xE8#8]
  | .sex9 => [0xE9#8]
  | .sex10 => [0xEA#8]
  | .sex11 => [0xEB#8]
  | .sex12 => [0xEC#8]
  | .sex13 => [0xED#8]
  | .sex14 => [0xEE#8]
  | .sex15 => [0xEF#8]
  | .ldx => [0xF0#8]
  | .or => [0xF1#8]
  | .and => [0xF2#8]
  | .xor => [0xF3#8]
  | .add => [0xF4#8]
  | .sd => [0xF5#8]
  | .shr => [0xF6#8]
  | .sm => [0xF7#8]
  | .ldi k => [0xF8#8, k]
  | .ori k => [0xF9#8, k]
  | .ani k => [0xFA#8, k]
  | .xri k => [0xFB#8, k]
  | .adi k => [0xFC#8, k]
  | .sdi k => [0xFD#8, k]
  | .shl => [0xFE#8]
  | .smi k => [0xFF#8, k]

/-- The three bytes of an instruction given as a number, numbered as opcode_table.json numbers its bits: bit 0
is the least significant bit of the opcode byte, the second byte is bits 15..8, the third bits 23..16; bits at
or above `nbits` are 0. -/
def wordBytes (nbits w : Nat) : Byte × Byte × Byte :=
  let v := w % 2 ^ nbits
  (BitVec.ofNat 8 v, BitVec.ofNat 8 (v / 256), BitVec.ofNat 8 (v / 65536))

/-- The instruction the decoder reads from an instruction whose bits are `w` (the host's fixed name). -/
def decodeTableWord (nbits w : Nat) : Option Instr :=
  match decode [(wordBytes nbits w).1, (wordBytes nbits w).2.1, (wordBytes nbits w).2.2] with
  | .ok (i, _) => some i
  | .error _ => none

end Sys2Proof
end

