-- ==== Sys2Proof/Machine/Engine.lean ====
section
/-! DEFINITION. The phases of the step around the instruction (40_step.md R110): the opcode fetch and the
decoding before it, the cycle advance, the interrupt check and the frame check after it. -/

namespace Sys2Proof.Machine

/-- The opcode at the program counter. -/
def State.opcode (s : State) : Byte := s.peek s.pc

/-- The instruction at the program counter. Its operand bytes are those at the following addresses, modulo 2^16
(R66, R90; notes/assumptions/8.md); looking ahead at them has no effect, since reading memory has none beyond
the latches (R62). -/
def State.instruction (s : State) : Instr := decodeBytes s.opcode (s.peek (s.pc + 1)) (s.peek (s.pc + 2))

/-- Phase 1: the opcode fetched, `R[P]` past it (R111). -/
def State.fetchOpcode (s : State) : State := s.fetch.2

/-- Phase 3: `CYC <- CYC + 2` (R113). -/
def State.advanceCycles (s : State) : State := { s with cyc := s.cyc + Config.instrCycles }

/-- The interrupt request of R270, masked by `IE`: `CYC >= FRAME_CYCLES - 29 and IE = 1` (R114). -/
def State.interruptTaken (s : State) : Bool := decide (s.cfg.interruptPoint ≤ s.cyc) && s.ie

/-- Phase 4 (R114). -/
def State.interruptCheck (s : State) : State := if s.interruptTaken then s.deliverInterrupt else s

/-- The pointer published with the display page address: the place `R[P]` when 256 bytes of memory lie ahead of
it, none otherwise (R115; the spec's decision D20; notes/assumptions/15.md). -/
def State.displayPage (s : State) : Option Nat :=
  if s.pc.toNat + Config.pageSpan ≤ s.cfg.memSize then some s.pc.toNat else none

/-- `CompleteFrame()` (R115). -/
def State.completeFrame (s : State) : State :=
  { (s.call (.setDisplayPage s.pc s.displayPage)).call .endOfFrame with
      cyc := s.cyc - s.cfg.frameCycles, result := Config.frameRate }

/-- Phase 5, with the result of the step (R115, R116). -/
def State.frameCheck (s : State) : State :=
  if s.cfg.frameCycles ≤ s.cyc then s.completeFrame else { s with result := 0 }

/-- Phases 3 to 5, in their order (R110, R120). -/
def State.afterInstruction (s : State) : State := s.advanceCycles.interruptCheck.frameCheck

end Sys2Proof.Machine
end

