-- ==== Sys2Proof/Machine/Step.lean ====
section
/-! DEFINITION. The step (40_step.md R110), and the placing of an instruction where the next step fetches it. -/

namespace Sys2Proof.Machine

/-- `Step()`: fetch, execute, then the cycle advance and the two checks. -/
def step (s : State) : Host.Outcome State Fault Refusal :=
  match exec s.instruction s.fetchOpcode with
  | .next s' => .next s'.afterInstruction
  | .fault r => .fault r
  | .refused r => .refused r

/-- `s` with the three bytes of an instruction stored at the program counter (the host's fixed name;
notes/assumptions/10.md). The bytes
are numbered as `wordBytes` says. Where the program counter is out of bounds there is no byte to store them in,
and the state is unchanged there (R61). -/
def State.withFetchWord (s : State) (nbits w : Nat) : State :=
  ((s.poke s.pc (wordBytes nbits w).1).poke (s.pc + 1) (wordBytes nbits w).2.1).poke (s.pc + 2)
    (wordBytes nbits w).2.2

end Sys2Proof.Machine
end

