-- ==== Sys2Proof/Machine/HostOps.lean ====
section
/-! DEFINITION. What the host may do between steps: reset (70_reset_and_hazards.md R310), load an image
(20_memory.md R85), and, of the debug layer that stands outside the block (60_exceptions.md R300 to R304), peek,
poke, the bounded run, the step-over target and the status snapshot. -/

namespace Sys2Proof.Machine

/-- `Reset()` from any state (R310, R311): every element of the block at its reset value, memory zeroed, one
reset notification. The parameters and the answers the Hardware Interface has yet to give are not the block's
(notes/assumptions/7.md, 14.md). -/
def State.hostReset (s : State) : State :=
  { State.resetWith s.cfg with
      keypadAnswers := s.keypadAnswers, keypadQueries := s.keypadQueries
      keyAnswers := s.keyAnswers, keyQueries := s.keyQueries
      trace := s.trace ++ [.resetNotification] }

/-- The bytes of an image written at `a`, `a + 1`, ... as far as a memory of `size` bytes reaches. -/
def Memory.load (size : Nat) : Memory → Nat → List Byte → Memory
  | m, _, [] => m
  | m, a, b :: bytes => Memory.load size (if a < size then m.write a b else m) (a + 1) bytes

/-- `loadImage(bytes)`: memory overwritten from offset 0; bytes beyond capacity are dropped, nothing else
changes (R85). -/
def State.loadImage (s : State) (bytes : List Byte) : State :=
  { s with mem := Memory.load s.cfg.memSize s.mem 0 bytes }

/-- `stepOverTarget()` (R302): the address after one of the sixteen SEP opcodes, and 0 at any other opcode. The
debug layer's `peek` and `poke` (R303) are `State.peek` and `State.poke`. -/
def State.stepOverTarget (s : State) : Word := if opcodeI s.opcode = 0xD then s.pc + 1 else 0

/-- The status snapshot (R304). -/
structure Snapshot where
  /-- `D`. -/
  d : Byte
  /-- `DF`. -/
  df : Bool
  /-- `Q`. -/
  q : Bool
  /-- `IE`. -/
  ie : Bool
  /-- `P`. -/
  p : Nibble
  /-- `X`. -/
  x : Nibble
  /-- `T`. -/
  t : Byte
  /-- `R[0..15]`. -/
  r : Vector Word 16
  /-- `CYC`. -/
  cyc : Nat
  /-- `R[P]`. -/
  pc : Word
deriving DecidableEq, Repr

/-- The snapshot of a state; taking it changes nothing (R304). -/
def State.snapshot (s : State) : Snapshot :=
  { d := s.d, df := s.df, q := s.q, ie := s.ie, p := s.p, x := s.x, t := s.t, r := s.r, cyc := s.cyc, pc := s.pc }

/-- `run(b1, b2)` (R301), for at most `fuel` steps: the value returned and the state, or none when it has not
returned yet. At least one step is performed before a breakpoint is looked at (90_conflicts.md C6). -/
def State.debugRun (b1 b2 : Word) : Nat → State → Option (Nat × State)
  | 0, _ => none
  | fuel + 1, s =>
    match step s with
    | .next s' =>
      if s'.result ≠ 0 then some (s'.result, s')
      else if s'.pc = b1 ∨ s'.pc = b2 then some (0, s')
      else State.debugRun b1 b2 fuel s'
    | .fault _ => none
    | .refused _ => none

end Sys2Proof.Machine
end

