-- ==== Sys2Proof/Safety.lean ====
section
/-! DEFINITION. The terms in which claims speak: the invariant of every reachable state, runs of several steps,
and what the common parts of the branch rules say of a state before and a state after. -/

namespace Sys2Proof.Machine

/-- The invariant: the parameters obey R6 and R7, `CYC` stays below the budget (R40, R117), memory is in its
canonical form and lists only addresses in bounds (R45, R61). -/
abbrev State.Inv (s : State) : Prop :=
  s.cfg.wf = true ∧ s.cyc < s.cfg.frameCycles ∧ s.mem.wf ∧ ∀ c ∈ s.mem, c.1 < s.cfg.memSize

/-- The state after `n` steps. -/
def runSteps : Nat → State → Result
  | 0, s => .next s
  | n + 1, s =>
    match step s with
    | .next s' => runSteps n s'
    | .fault r => .fault r
    | .refused r => .refused r

/-- None of the next `n` steps executes RET, opcode 0x70. -/
def avoidsRet : Nat → State → Bool
  | 0, _ => true
  | n + 1, s =>
    s.opcode != 0x70#8 &&
      match step s with
      | .next s' => avoidsRet n s'
      | .fault _ => true
      | .refused _ => true

/-- The state after an instruction is executed `n` times in a row (phase 2 only). -/
def execTimes : Nat → Instr → State → Result
  | 0, _, s => .next s
  | n + 1, i, s =>
    match exec i s with
    | .next s' => execTimes n i s'
    | .fault r => .fault r
    | .refused r => .refused r

/-- How many frames have been completed: the end-of-frame notifications made (R115). -/
def State.frames (s : State) : Nat := s.trace.count .endOfFrame

/-- The opcode byte of an instruction. -/
def opcodeOf (i : Instr) : Byte := (encode i).headD 0

/-- No register but `R[n]` changed. -/
def SameRegistersBut (n : Nibble) (s s' : State) : Prop := ∀ m, m ≠ n → s'.readReg m = s.readReg m

/-- Every byte reads as before, but the byte at `a`, if in bounds, reads as `v`. -/
def StoresByte (a : Word) (v : Byte) (s s' : State) : Prop :=
  ∀ b, s'.peek b = if b = a ∧ s.inBounds a = true then v else s.peek b

/-- What R185 says of a short branch, taken or not: the new program counter keeps the page of the operand byte
and takes `a` as its low byte, or moves one on; nothing else changes but the latches. The page of a taken branch is
the page rule, PRESUMED by the spec itself (notes/assumptions/13.md; G6, U9). -/
def ShortBranches (taken : Bool) (a : Byte) (s s' : State) : Prop :=
  s'.pc.toNat = (if taken then s.pc.toNat / 256 * 256 + a.toNat else (s.pc.toNat + 1) % 65536) ∧
    SameRegistersBut s.p s s' ∧ s' = { s with r := s'.r, ma := s.pc, mb := a }

/-- What R210 says of a long branch, taken or not. -/
def LongBranches (taken : Bool) (target : Word) (s s' : State) : Prop :=
  s'.pc = (if taken then target else s.pc + 2) ∧ SameRegistersBut s.p s s' ∧
    s' = { s with r := s'.r, ma := s.pc + 1, mb := lowByte target }

/-- What R220 says of a long skip, taken or not: only `R[P]` changes. -/
def LongSkips (taken : Bool) (s s' : State) : Prop :=
  s'.pc = (if taken then s.pc + 2 else s.pc) ∧ SameRegistersBut s.p s s' ∧ s' = { s with r := s'.r }

/-- An immediate operand was fetched (R111): `R[P]` moved one on, the latches hold the access, no other register
changed. -/
def FetchesImmediate (k : Byte) (s s' : State) : Prop :=
  s'.pc = s.pc + 1 ∧ SameRegistersBut s.p s s' ∧ s'.ma = s.pc ∧ s'.mb = k

end Sys2Proof.Machine
end

