-- ==== Sys2Proof/Certificates/Slice0/Obligations.lean ====
section
/-! DEFINITION. The statements for the provers. A statement about an instruction says that `exec` answers a next
state, what that state holds, and, by equating it with the old state at every other field, that nothing else
changed; in `exec` the opcode has been fetched and `R[P]` is past it (40_step.md R110). Instructions whose opcode
carries a register or port number are named by that number: `Instr.incOf n` is INC n. -/

open Sys2Proof Sys2Proof.Machine

/-! ### Encoding -/

/-- DECODE AND ENCODE AGREE (R90, R95, R96): decoding the bytes of any instruction, with every operand, gives
that instruction and leaves the bytes after it. -/
def Obligations.DecodeOfEncodeIsTheInstruction : Prop :=
  ∀ (i : Instr) (rest : List Byte), decode (encode i ++ rest) = .ok (i, rest)

/-- R97, R94: every opcode byte, with any bytes after it, selects an instruction that is encoded by just those
bytes, as many of them as R94 says the opcode has (0xC8 counts as one byte, the model's reading of R94 and R221:
notes/assumptions/9.md). Hence no two opcode bytes select one instruction. -/
def Obligations.EncodeOfDecodeGivesTheBytesBack : Prop :=
  ∀ op b1 b2 : Byte, encode (decodeBytes op b1 b2) = [op, b1, b2].take (opcodeLength op)

/-- Words written out bit by bit from the encoding lines of R131, R140, R186, R256, R257, R242, R135, R211, R221
and R240 decode to the instructions they stand for. That C0 12 34 is LBR 0x1234, the high byte first, is the spec's
decision D14, taken from general knowledge (PRESUMED: notes/assumptions/17.md). -/
def Obligations.WrittenWordsDecode : Prop :=
  decodeBytes 0b00000111#8 0 0 = .ldn7 ∧ decodeBytes 0b00011010#8 0 0 = .inc10 ∧
  decodeBytes 0b00110000#8 0b01000000#8 0 = .br 0x40#8 ∧ decodeBytes 0b01100100#8 0 0 = .out4 ∧
  decodeBytes 0b01101100#8 0 0 = .inp4 ∧ decodeBytes 0b01110000#8 0 0 = .ret ∧
  decodeBytes 0b11111000#8 0b00111010#8 0 = .ldi 0x3A#8 ∧
  decodeBytes 0b11000000#8 0b00010010#8 0b00110100#8 = .lbr 0x1234#16 ∧
  decodeBytes 0b11001000#8 0 0 = .lskp ∧ decodeBytes 0b11010101#8 0 0 = .sep5

/-! ### Memory reference -/

/-- R131, LDN 1 to LDN 15: `D` takes the byte at `R[N]`; only the latches change besides. -/
def Obligations.LdnLoadsThroughRn : Prop :=
  ∀ (n : Nibble) (s : State), n ≠ 0 → encode (Instr.ldnOf n) = [0b0000#4 ++ n] ∧
    exec (Instr.ldnOf n) s =
      .next { s with d := s.peek (s.readReg n), ma := s.readReg n, mb := s.peek (s.readReg n) }

/-- R132, LDA 0 to LDA 15: `D` takes the byte at `R[N]`, then `R[N]` advances, modulo 2^16. -/
def Obligations.LdaLoadsAndAdvances : Prop :=
  ∀ (n : Nibble) (s : State), encode (Instr.ldaOf n) = [0b0100#4 ++ n] ∧
    ∃ s', exec (Instr.ldaOf n) s = .next s' ∧ s'.d = s.peek (s.readReg n) ∧
      (s'.readReg n).toNat = ((s.readReg n).toNat + 1) % 65536 ∧ SameRegistersBut n s s' ∧
      s' = { s with r := s'.r, d := s'.d, ma := s.readReg n, mb := s.peek (s.readReg n) }

/-- R133, R134: LDX loads the byte at `R[X]`; LDXA does too and then advances `R[X]`. -/
def Obligations.LdxAndLdxaLoadThroughRx : Prop :=
  ∀ s : State, encode .ldx = [0b11110000#8] ∧ encode .ldxa = [0b01110010#8] ∧
    exec .ldx s = .next { s with d := s.peek s.index, ma := s.index, mb := s.peek s.index } ∧
    ∃ s', exec .ldxa s = .next s' ∧ s'.d = s.peek s.index ∧
      (s'.readReg s.x).toNat = (s.index.toNat + 1) % 65536 ∧ SameRegistersBut s.x s s' ∧
      s' = { s with r := s'.r, d := s'.d, ma := s.index, mb := s.peek s.index }

/-- R135: LDI loads its immediate byte, and `R[P]` moves past it. -/
def Obligations.LdiLoadsItsImmediate : Prop :=
  ∀ (k : Byte) (s : State), encode (.ldi k) = [0b11111000#8, k] ∧
    ∃ s', exec (.ldi k) s = .next s' ∧ s'.d = k ∧ FetchesImmediate k s s' ∧
      s' = { s with r := s'.r, d := s'.d, ma := s'.ma, mb := s'.mb }

/-- R136, STR 0 to STR 15: the byte at `R[N]` becomes `D` if that address is in bounds; every other byte of
memory, and every register, is unchanged. -/
def Obligations.StrStoresAtRn : Prop :=
  ∀ (n : Nibble) (s : State), encode (Instr.strOf n) = [0b0101#4 ++ n] ∧
    ∃ s', exec (Instr.strOf n) s = .next s' ∧ StoresByte (s.readReg n) s.d s s' ∧
      s' = { s with mem := s'.mem, ma := s.readReg n, mb := s.d }

/-- R137: STXD stores `D` at `R[X]` as it was before the decrement, then `R[X]` moves down, modulo 2^16. -/
def Obligations.StxdStoresAndDecrements : Prop :=
  ∀ s : State, encode .stxd = [0b01110011#8] ∧
    ∃ s', exec .stxd s = .next s' ∧ StoresByte s.index s.d s s' ∧
      (s'.readReg s.x).toNat = (s.index.toNat + 65535) % 65536 ∧ SameRegistersBut s.x s s' ∧
      s' = { s with r := s'.r, mem := s'.mem, ma := s.index, mb := s.d }

/-! ### Register operations -/

/-- R140, R142: INC 0 to INC 15 add 1 to `R[N]` modulo 2^16, IRX to `R[X]`; nothing else changes. -/
def Obligations.IncAndIrxAddOne : Prop :=
  ∀ (n : Nibble) (s : State), encode (Instr.incOf n) = [0b0001#4 ++ n] ∧ encode .irx = [0b01100000#8] ∧
    (∃ s', exec (Instr.incOf n) s = .next s' ∧ (s'.readReg n).toNat = ((s.readReg n).toNat + 1) % 65536 ∧
      SameRegistersBut n s s' ∧ s' = { s with r := s'.r }) ∧
    (∃ s', exec .irx s = .next s' ∧ (s'.readReg s.x).toNat = (s.index.toNat + 1) % 65536 ∧
      SameRegistersBut s.x s s' ∧ s' = { s with r := s'.r })

/-- R141, DEC 0 to DEC 15: `R[N]` takes `(R[N] - 1) mod 2^16`; nothing else changes. -/
def Obligations.DecSubtractsOne : Prop :=
  ∀ (n : Nibble) (s : State), encode (Instr.decOf n) = [0b0010#4 ++ n] ∧
    ∃ s', exec (Instr.decOf n) s = .next s' ∧
      (s'.readReg n).toNat = ((s.readReg n).toNat + 65535) % 65536 ∧
      SameRegistersBut n s s' ∧ s' = { s with r := s'.r }

/-- R143, R144, GLO 0 to GLO 15 and GHI 0 to GHI 15: `D` takes the low, or the high, half of `R[N]`. -/
def Obligations.GloAndGhiReadAHalf : Prop :=
  ∀ (n : Nibble) (s : State), encode (Instr.gloOf n) = [0b1000#4 ++ n] ∧ encode (Instr.ghiOf n) = [0b1001#4 ++ n] ∧
    (∃ s', exec (Instr.gloOf n) s = .next s' ∧ s'.d.toNat = (s.readReg n).toNat % 256 ∧
      s' = { s with d := s'.d }) ∧
    (∃ s', exec (Instr.ghiOf n) s = .next s' ∧ s'.d.toNat = (s.readReg n).toNat / 256 ∧
      s' = { s with d := s'.d })

/-- R145, R146, PLO 0 to PLO 15 and PHI 0 to PHI 15: the low, or the high, half of `R[N]` takes `D`, the other
half is kept. -/
def Obligations.PloAndPhiWriteAHalf : Prop :=
  ∀ (n : Nibble) (s : State), encode (Instr.ploOf n) = [0b1010#4 ++ n] ∧ encode (Instr.phiOf n) = [0b1011#4 ++ n] ∧
    (∃ s', exec (Instr.ploOf n) s = .next s' ∧
      (s'.readReg n).toNat = (s.readReg n).toNat / 256 * 256 + s.d.toNat ∧
      SameRegistersBut n s s' ∧ s' = { s with r := s'.r }) ∧
    (∃ s', exec (Instr.phiOf n) s = .next s' ∧
      (s'.readReg n).toNat = s.d.toNat * 256 + (s.readReg n).toNat % 256 ∧
      SameRegistersBut n s s' ∧ s' = { s with r := s'.r })

/-! ### Logic and shift -/

/-- R151, R153, R155 (functions: R150): OR, XOR and AND combine `D` with the byte at `R[X]` bit by bit; `DF` and
`R[X]` are unchanged. -/
def Obligations.LogicWithMemoryIsBitwise : Prop :=
  ∀ s : State, encode .or = [0b11110001#8] ∧ encode .xor = [0b11110011#8] ∧ encode .and = [0b11110010#8] ∧
    (∃ s', exec .or s = .next s' ∧ s' = { s with d := s'.d, ma := s.index, mb := s.peek s.index } ∧
      ∀ i < 8, s'.d.getLsbD i = ((s.peek s.index).getLsbD i || s.d.getLsbD i)) ∧
    (∃ s', exec .xor s = .next s' ∧ s' = { s with d := s'.d, ma := s.index, mb := s.peek s.index } ∧
      ∀ i < 8, s'.d.getLsbD i = ((s.peek s.index).getLsbD i ^^ s.d.getLsbD i)) ∧
    (∃ s', exec .and s = .next s' ∧ s' = { s with d := s'.d, ma := s.index, mb := s.peek s.index } ∧
      ∀ i < 8, s'.d.getLsbD i = ((s.peek s.index).getLsbD i && s.d.getLsbD i))

/-- R152, R154, R156: ORI, XRI and ANI combine `D` with the immediate byte bit by bit; `DF` is unchanged and
`R[P]` moves past the byte. -/
def Obligations.LogicWithImmediateIsBitwise : Prop :=
  ∀ (k : Byte) (s : State),
    encode (.ori k) = [0b11111001#8, k] ∧ encode (.xri k) = [0b11111011#8, k] ∧ encode (.ani k) = [0b11111010#8, k] ∧
    (∃ s', exec (.ori k) s = .next s' ∧ FetchesImmediate k s s' ∧
      s' = { s with r := s'.r, d := s'.d, ma := s'.ma, mb := s'.mb } ∧
      ∀ i < 8, s'.d.getLsbD i = (k.getLsbD i || s.d.getLsbD i)) ∧
    (∃ s', exec (.xri k) s = .next s' ∧ FetchesImmediate k s s' ∧
      s' = { s with r := s'.r, d := s'.d, ma := s'.ma, mb := s'.mb } ∧
      ∀ i < 8, s'.d.getLsbD i = (k.getLsbD i ^^ s.d.getLsbD i)) ∧
    (∃ s', exec (.ani k) s = .next s' ∧ FetchesImmediate k s s' ∧
      s' = { s with r := s'.r, d := s'.d, ma := s'.ma, mb := s'.mb } ∧
      ∀ i < 8, s'.d.getLsbD i = (k.getLsbD i && s.d.getLsbD i))

/-- R157, R158: SHR halves `D`, SHRC halves it and puts the old `DF` into bit 7; `DF` takes the bit shifted out. -/
def Obligations.RightShiftsHalveD : Prop :=
  ∀ s : State, encode .shr = [0b11110110#8] ∧ encode .shrc = [0b01110110#8] ∧
    (∃ s', exec .shr s = .next s' ∧ s' = { s with d := s'.d, df := s'.df } ∧
      s'.d.toNat = s.d.toNat / 2 ∧ s'.df = decide (s.d.toNat % 2 = 1)) ∧
    (∃ s', exec .shrc s = .next s' ∧ s' = { s with d := s'.d, df := s'.df } ∧
      s'.d.toNat = s.df.toNat * 128 + s.d.toNat / 2 ∧ s'.df = decide (s.d.toNat % 2 = 1))

/-- R159, R160: SHL doubles `D` modulo 256, SHLC doubles it and puts the old `DF` into bit 0; `DF` takes the bit
shifted out. -/
def Obligations.LeftShiftsDoubleD : Prop :=
  ∀ s : State, encode .shl = [0b11111110#8] ∧ encode .shlc = [0b01111110#8] ∧
    (∃ s', exec .shl s = .next s' ∧ s' = { s with d := s'.d, df := s'.df } ∧
      s'.d.toNat = s.d.toNat * 2 % 256 ∧ s'.df = decide (128 ≤ s.d.toNat)) ∧
    (∃ s', exec .shlc s = .next s' ∧ s' = { s with d := s'.d, df := s'.df } ∧
      s'.d.toNat = s.d.toNat * 2 % 256 + s.df.toNat ∧ s'.df = decide (128 ≤ s.d.toNat))

/-- R158, R160, corner cases: SHRC and SHLC rotate nine bits through `DF`, so nine executions in a row restore
the whole state. -/
def Obligations.NineRotatesRestoreTheState : Prop :=
  ∀ s : State, execTimes 9 .shrc s = .next s ∧ execTimes 9 .shlc s = .next s

/-! ### Arithmetic -/

/-- R167, R169 (adder: R165): ADD and ADC add the byte M at `R[X]` to `D`, ADC with the old `DF` as carry in,
modulo 256; `DF` is the carry out. -/
def Obligations.AddWithMemory : Prop :=
  ∀ s : State, encode .add = [0b11110100#8] ∧ encode .adc = [0b01110100#8] ∧
    (∃ s', exec .add s = .next s' ∧ s' = { s with d := s'.d, df := s'.df, ma := s.index, mb := s.peek s.index } ∧
      s'.d.toNat = ((s.peek s.index).toNat + s.d.toNat) % 256 ∧
      s'.df = decide (255 < (s.peek s.index).toNat + s.d.toNat)) ∧
    (∃ s', exec .adc s = .next s' ∧ s' = { s with d := s'.d, df := s'.df, ma := s.index, mb := s.peek s.index } ∧
      s'.d.toNat = ((s.peek s.index).toNat + s.d.toNat + s.df.toNat) % 256 ∧
      s'.df = decide (255 < (s.peek s.index).toNat + s.d.toNat + s.df.toNat))

/-- R168, R170: ADI and ADCI, the same with the immediate byte. -/
def Obligations.AddWithImmediate : Prop :=
  ∀ (k : Byte) (s : State), encode (.adi k) = [0b11111100#8, k] ∧ encode (.adci k) = [0b01111100#8, k] ∧
    (∃ s', exec (.adi k) s = .next s' ∧ FetchesImmediate k s s' ∧
      s' = { s with r := s'.r, d := s'.d, df := s'.df, ma := s'.ma, mb := s'.mb } ∧
      s'.d.toNat = (k.toNat + s.d.toNat) % 256 ∧ s'.df = decide (255 < k.toNat + s.d.toNat)) ∧
    (∃ s', exec (.adci k) s = .next s' ∧ FetchesImmediate k s s' ∧
      s' = { s with r := s'.r, d := s'.d, df := s'.df, ma := s'.ma, mb := s'.mb } ∧
      s'.d.toNat = (k.toNat + s.d.toNat + s.df.toNat) % 256 ∧
      s'.df = decide (255 < k.toNat + s.d.toNat + s.df.toNat))

/-- R171, R173: SD is M - D and SDB is M - D - (1 - DF), modulo 256, M the byte at `R[X]`; `DF` is 1 exactly when
there is no borrow. -/
def Obligations.SubtractDFromMemory : Prop :=
  ∀ s : State, encode .sd = [0b11110101#8] ∧ encode .sdb = [0b01110101#8] ∧
    (∃ s', exec .sd s = .next s' ∧ s' = { s with d := s'.d, df := s'.df, ma := s.index, mb := s.peek s.index } ∧
      (s'.d.toNat : Int) = ((s.peek s.index).toNat - s.d.toNat : Int) % 256 ∧
      s'.df = decide (s.d.toNat ≤ (s.peek s.index).toNat)) ∧
    (∃ s', exec .sdb s = .next s' ∧ s' = { s with d := s'.d, df := s'.df, ma := s.index, mb := s.peek s.index } ∧
      (s'.d.toNat : Int) = ((s.peek s.index).toNat - s.d.toNat - (1 - s.df.toNat) : Int) % 256 ∧
      s'.df = decide (s.d.toNat + (1 - s.df.toNat) ≤ (s.peek s.index).toNat))

/-- R172, R174: SDI and SDBI, the same with the immediate byte. -/
def Obligations.SubtractDFromImmediate : Prop :=
  ∀ (k : Byte) (s : State), encode (.sdi k) = [0b11111101#8, k] ∧ encode (.sdbi k) = [0b01111101#8, k] ∧
    (∃ s', exec (.sdi k) s = .next s' ∧ FetchesImmediate k s s' ∧
      s' = { s with r := s'.r, d := s'.d, df := s'.df, ma := s'.ma, mb := s'.mb } ∧
      (s'.d.toNat : Int) = (k.toNat - s.d.toNat : Int) % 256 ∧ s'.df = decide (s.d.toNat ≤ k.toNat)) ∧
    (∃ s', exec (.sdbi k) s = .next s' ∧ FetchesImmediate k s s' ∧
      s' = { s with r := s'.r, d := s'.d, df := s'.df, ma := s'.ma, mb := s'.mb } ∧
      (s'.d.toNat : Int) = (k.toNat - s.d.toNat - (1 - s.df.toNat) : Int) % 256 ∧
      s'.df = decide (s.d.toNat + (1 - s.df.toNat) ≤ k.toNat))

/-- R175, R177: SM is D - M and SMB is D - M - (1 - DF), modulo 256, M the byte at `R[X]`; `DF` is 1 exactly when
there is no borrow. -/
def Obligations.SubtractMemoryFromD : Prop :=
  ∀ s : State, encode .sm = [0b11110111#8] ∧ encode .smb = [0b01110111#8] ∧
    (∃ s', exec .sm s = .next s' ∧ s' = { s with d := s'.d, df := s'.df, ma := s.index, mb := s.peek s.index } ∧
      (s'.d.toNat : Int) = (s.d.toNat - (s.peek s.index).toNat : Int) % 256 ∧
      s'.df = decide ((s.peek s.index).toNat ≤ s.d.toNat)) ∧
    (∃ s', exec .smb s = .next s' ∧ s' = { s with d := s'.d, df := s'.df, ma := s.index, mb := s.peek s.index } ∧
      (s'.d.toNat : Int) = (s.d.toNat - (s.peek s.index).toNat - (1 - s.df.toNat) : Int) % 256 ∧
      s'.df = decide ((s.peek s.index).toNat + (1 - s.df.toNat) ≤ s.d.toNat))

/-- R176, R178: SMI and SMBI, the same with the immediate byte. -/
def Obligations.SubtractImmediateFromD : Prop :=
  ∀ (k : Byte) (s : State), encode (.smi k) = [0b11111111#8, k] ∧ encode (.smbi k) = [0b01111111#8, k] ∧
    (∃ s', exec (.smi k) s = .next s' ∧ FetchesImmediate k s s' ∧
      s' = { s with r := s'.r, d := s'.d, df := s'.df, ma := s'.ma, mb := s'.mb } ∧
      (s'.d.toNat : Int) = (s.d.toNat - k.toNat : Int) % 256 ∧ s'.df = decide (k.toNat ≤ s.d.toNat)) ∧
    (∃ s', exec (.smbi k) s = .next s' ∧ FetchesImmediate k s s' ∧
      s' = { s with r := s'.r, d := s'.d, df := s'.df, ma := s'.ma, mb := s'.mb } ∧
      (s'.d.toNat : Int) = (s.d.toNat - k.toNat - (1 - s.df.toNat) : Int) % 256 ∧
      s'.df = decide (k.toNat + (1 - s.df.toNat) ≤ s.d.toNat))

/-! ### Short branches -/

/-- R194: SKP never branches. BR always does, and where it lands rests on the page rule (PRESUMED:
notes/assumptions/13.md), as G6 and U9 ask to be said: at an operand address xxFF the target stays in that page. -/
def Obligations.BrAlwaysAndSkpNeverBranch : Prop :=
  ∀ (a : Byte) (s : State), encode (.br a) = [0b00110000#8, a] ∧ encode (.skp a) = [0b00111000#8, a] ∧
    (∃ s', exec (.br a) s = .next s' ∧ ShortBranches true a s s') ∧
    (∃ s', exec (.skp a) s = .next s' ∧ ShortBranches false a s s')

/-- R187 to R189, R195 to R197: BQ, BZ, BDF and their complements BNQ, BNZ, BNF branch on `Q`, on `D` being zero,
and on `DF`. Where a taken branch lands rests on the page rule (PRESUMED: notes/assumptions/13.md; G6, U9). -/
def Obligations.RegisterConditionsOfShortBranches : Prop :=
  ∀ (a : Byte) (s : State),
    encode (.bq a) = [0b00110001#8, a] ∧ encode (.bz a) = [0b00110010#8, a] ∧ encode (.bdf a) = [0b00110011#8, a] ∧
    encode (.bnq a) = [0b00111001#8, a] ∧ encode (.bnz a) = [0b00111010#8, a] ∧ encode (.bnf a) = [0b00111011#8, a] ∧
    (∃ s', exec (.bq a) s = .next s' ∧ ShortBranches (decide (s.q = true)) a s s') ∧
    (∃ s', exec (.bz a) s = .next s' ∧ ShortBranches (decide (s.d.toNat = 0)) a s s') ∧
    (∃ s', exec (.bdf a) s = .next s' ∧ ShortBranches (decide (s.df = true)) a s s') ∧
    (∃ s', exec (.bnq a) s = .next s' ∧ ShortBranches (decide (s.q = false)) a s s') ∧
    (∃ s', exec (.bnz a) s = .next s' ∧ ShortBranches (decide (s.d.toNat ≠ 0)) a s s') ∧
    (∃ s', exec (.bnf a) s = .next s' ∧ ShortBranches (decide (s.df = false)) a s s')

/-- R190 to R192, R198 to R200: flag 1 is always asserted (R75) and flags 2 and 3 never are (R76), so B1, BN2 and
BN3 always branch and B2, B3 and BN1 never do; none makes a call to the Hardware Interface. The level of flags 2 and
3 is the spec's decision D12 (notes/assumptions/12.md). Where a taken branch lands rests on the page rule (PRESUMED:
notes/assumptions/13.md; G6, U9). -/
def Obligations.WiredFlagsDecideTheirBranches : Prop :=
  ∀ (a : Byte) (s : State),
    encode (.b1 a) = [0b00110100#8, a] ∧ encode (.b2 a) = [0b00110101#8, a] ∧ encode (.b3 a) = [0b00110110#8, a] ∧
    encode (.bn1 a) = [0b00111100#8, a] ∧ encode (.bn2 a) = [0b00111101#8, a] ∧ encode (.bn3 a) = [0b00111110#8, a] ∧
    (∃ s', exec (.b1 a) s = .next s' ∧ ShortBranches true a s s') ∧
    (∃ s', exec (.b2 a) s = .next s' ∧ ShortBranches false a s s') ∧
    (∃ s', exec (.b3 a) s = .next s' ∧ ShortBranches false a s s') ∧
    (∃ s', exec (.bn1 a) s = .next s' ∧ ShortBranches false a s s') ∧
    (∃ s', exec (.bn2 a) s = .next s' ∧ ShortBranches true a s s') ∧
    (∃ s', exec (.bn3 a) s = .next s' ∧ ShortBranches true a s s')

/-- R193, R201, R75: B4 and BN4 make exactly one query-key-pressed call, and branch on its answer, whatever that
answer is. Where a taken branch lands rests on the page rule (PRESUMED: notes/assumptions/13.md; G6, U9). -/
def Obligations.KeyBranchesAskOnceAndObeyTheAnswer : Prop :=
  ∀ (a : Byte) (s : State), encode (.b4 a) = [0b00110111#8, a] ∧ encode (.bn4 a) = [0b00111111#8, a] ∧
    (∃ s', exec (.b4 a) s = .next s' ∧ ShortBranches s.nextKey a s.queryKey.2 s') ∧
    (∃ s', exec (.bn4 a) s = .next s' ∧ ShortBranches (!s.nextKey) a s.queryKey.2 s') ∧
    s.queryKey.2 = { s with keyAnswers := s.keyAnswers.tail, keyQueries := s.keyQueries + 1
                            trace := s.trace ++ [.queryKeyPressed s.nextKey] }

/-- The page rule of R185 over a whole step: BR at address A lands in the page of A, or in the next page (modulo
256) when A is the last byte of its page, at the low byte its operand gives. The rule is the spec's resolution C7,
taken from general knowledge, and a choice (PRESUMED: notes/assumptions/13.md). G6 and U9 ask that a proof resting on
it where the operand is at xxFF (A ending in 0xFE) be flagged: this one does. -/
def Obligations.ShortBranchStaysInThePageOfItsOperand : Prop :=
  ∀ s : State, s.opcode = 0x30#8 → ∃ s', step s = .next s' ∧
    (s'.readReg s.p).toNat =
      (if s.pc.toNat % 256 = 255 then (s.pc.toNat / 256 + 1) % 256 else s.pc.toNat / 256) * 256 +
        (s.peek (s.pc + 1)).toNat

/-! ### Long branches and long skips -/

/-- R211 to R217 (mechanics: R210): each long branch loads its target into `R[P]` when its condition holds, and
else leaves `R[P]` past the two operand bytes. That the high byte comes first is the spec's decision D14
(notes/assumptions/17.md). -/
def Obligations.LongBranchesLoadTheirTarget : Prop :=
  ∀ (target : Word) (s : State),
    encode (.lbr target) = [0xC0#8, highByte target, lowByte target] ∧
    encode (.lbq target) = [0xC1#8, highByte target, lowByte target] ∧
    encode (.lbz target) = [0xC2#8, highByte target, lowByte target] ∧
    encode (.lbdf target) = [0xC3#8, highByte target, lowByte target] ∧
    encode (.lbnq target) = [0xC9#8, highByte target, lowByte target] ∧
    encode (.lbnz target) = [0xCA#8, highByte target, lowByte target] ∧
    encode (.lbnf target) = [0xCB#8, highByte target, lowByte target] ∧
    (∃ s', exec (.lbr target) s = .next s' ∧ LongBranches true target s s') ∧
    (∃ s', exec (.lbq target) s = .next s' ∧ LongBranches (decide (s.q = true)) target s s') ∧
    (∃ s', exec (.lbz target) s = .next s' ∧ LongBranches (decide (s.d.toNat = 0)) target s s') ∧
    (∃ s', exec (.lbdf target) s = .next s' ∧ LongBranches (decide (s.df = true)) target s s') ∧
    (∃ s', exec (.lbnq target) s = .next s' ∧ LongBranches (decide (s.q = false)) target s s') ∧
    (∃ s', exec (.lbnz target) s = .next s' ∧ LongBranches (decide (s.d.toNat ≠ 0)) target s s') ∧
    (∃ s', exec (.lbnf target) s = .next s' ∧ LongBranches (decide (s.df = false)) target s s')

/-- R221 to R227, R229 (mechanics: R220): each long skip adds 2 to `R[P]` when its condition holds and else does
nothing; none reads memory. -/
def Obligations.LongSkipsAddTwo : Prop :=
  ∀ s : State,
    encode .lskp = [0b11001000#8] ∧ encode .lsnq = [0b11000101#8] ∧ encode .lsnz = [0b11000110#8] ∧
    encode .lsnf = [0b11000111#8] ∧ encode .lsq = [0b11001101#8] ∧ encode .lsz = [0b11001110#8] ∧
    encode .lsdf = [0b11001111#8] ∧ encode .lsie = [0b11001100#8] ∧
    (∃ s', exec .lskp s = .next s' ∧ LongSkips true s s') ∧
    (∃ s', exec .lsnq s = .next s' ∧ LongSkips (decide (s.q = false)) s s') ∧
    (∃ s', exec .lsnz s = .next s' ∧ LongSkips (decide (s.d.toNat ≠ 0)) s s') ∧
    (∃ s', exec .lsnf s = .next s' ∧ LongSkips (decide (s.df = false)) s s') ∧
    (∃ s', exec .lsq s = .next s' ∧ LongSkips (decide (s.q = true)) s s') ∧
    (∃ s', exec .lsz s = .next s' ∧ LongSkips (decide (s.d.toNat = 0)) s s') ∧
    (∃ s', exec .lsdf s = .next s' ∧ LongSkips (decide (s.df = true)) s s') ∧
    (∃ s', exec .lsie s = .next s' ∧ LongSkips (decide (s.ie = true)) s s')

/-! ### Control -/

/-- R235: IDL moves `R[P]` back by one, unless the interrupt will be delivered in this step, and then it does
nothing. This form of waiting is the spec's decision D11 (notes/assumptions/6.md). -/
def Obligations.IdlHoldsUntilTheInterrupt : Prop :=
  ∀ s : State, encode .idl = [0b00000000#8] ∧
    ∃ s', exec .idl s = .next s' ∧ s' = { s with r := s'.r } ∧ SameRegistersBut s.p s s' ∧
      s'.pc = if s.cfg.frameCycles - 29 ≤ s.cyc + 2 ∧ s.ie = true then s.pc else s.pc - 1

/-- R236, R239: NOP and the unassigned opcode 0x68 change nothing. For 0x68 this is the spec's decision D10
(notes/assumptions/5.md). -/
def Obligations.NopAndOpcode68ChangeNothing : Prop :=
  ∀ s : State, encode .nop = [0b11000100#8] ∧ encode .ill68 = [0b01101000#8] ∧
    exec .nop s = .next s ∧ exec .ill68 s = .next s

/-- R237, R238: SEQ sets `Q`, REQ clears it, and nothing else changes. -/
def Obligations.SeqSetsAndReqClearsQ : Prop :=
  ∀ s : State, encode .seq = [0b01111011#8] ∧ encode .req = [0b01111010#8] ∧
    exec .seq s = .next { s with q := true } ∧ exec .req s = .next { s with q := false }

/-- R240, R241, SEP 0 to SEP 15 and SEX 0 to SEX 15: `P`, or `X`, takes N, and no general register changes. -/
def Obligations.SepAndSexSelectARegister : Prop :=
  ∀ (n : Nibble) (s : State), encode (Instr.sepOf n) = [0b1101#4 ++ n] ∧ encode (Instr.sexOf n) = [0b1110#4 ++ n] ∧
    exec (Instr.sepOf n) s = .next { s with p := n } ∧ exec (Instr.sexOf n) s = .next { s with x := n }

/-- R242, R243, R280: RET and DIS read the byte at `R[X]`, increment the register the OLD `X` selects, load `X` and
`P` from the byte's nibbles, and leave `IE` set, or clear. The order of the nibbles is the spec's decision D6, that
of the sub-effects its decision D28 (notes/assumptions/11.md, 18.md). -/
def Obligations.RetAndDisReturn : Prop :=
  ∀ s : State, encode .ret = [0b01110000#8] ∧ encode .dis = [0b01110001#8] ∧
    (∃ s', exec .ret s = .next s' ∧ s'.ie = true ∧
      s'.x.toNat = (s.peek s.index).toNat / 16 ∧ s'.p.toNat = (s.peek s.index).toNat % 16 ∧
      (s'.readReg s.x).toNat = (s.index.toNat + 1) % 65536 ∧ SameRegistersBut s.x s s' ∧
      s' = { s with r := s'.r, x := s'.x, p := s'.p, ie := s'.ie, ma := s.index, mb := s.peek s.index }) ∧
    (∃ s', exec .dis s = .next s' ∧ s'.ie = false ∧
      s'.x.toNat = (s.peek s.index).toNat / 16 ∧ s'.p.toNat = (s.peek s.index).toNat % 16 ∧
      (s'.readReg s.x).toNat = (s.index.toNat + 1) % 65536 ∧ SameRegistersBut s.x s s' ∧
      s' = { s with r := s'.r, x := s'.x, p := s'.p, ie := s'.ie, ma := s.index, mb := s.peek s.index })

/-- R244, R245: SAV stores `T` at `R[X]`, and no register changes. MARK packs `X : P` into `T` and stores it at
`R[2]`, copies `P` into `X`, and decrements `R[2]` after the store. The order of the nibbles of `T` is the spec's
decision D6 (notes/assumptions/11.md). -/
def Obligations.SavAndMarkStoreXAndP : Prop :=
  ∀ s : State, encode .sav = [0b01111000#8] ∧ encode .mark = [0b01111001#8] ∧
    (∃ s', exec .sav s = .next s' ∧ StoresByte s.index s.t s s' ∧
      s' = { s with mem := s'.mem, ma := s.index, mb := s.t }) ∧
    (∃ s', exec .mark s = .next s' ∧ s'.t.toNat = s.x.toNat * 16 + s.p.toNat ∧ s'.x = s.p ∧
      StoresByte (s.readReg 2) s'.t s s' ∧
      (s'.readReg 2).toNat = ((s.readReg 2).toNat + 65535) % 65536 ∧ SameRegistersBut 2 s s' ∧
      s' = { s with r := s'.r, mem := s'.mem, t := s'.t, x := s'.x, ma := s.readReg 2, mb := s'.t })

/-! ### Input and output -/

/-- R256, R258, OUT 1 to OUT 7: the byte at `R[X]` goes out (port 1 turns the screen off, port 4 is the digit
display, the others make no call) and `R[X]` advances; `D` is not involved. -/
def Obligations.OutSendsTheByteAtRx : Prop :=
  ∀ (n : PortNumber) (s : State), n ≠ 0 → encode (Instr.outOf n) = [0b01100#5 ++ n] ∧
    ∃ s', exec (Instr.outOf n) s = .next s' ∧
      s'.trace = s.trace ++ (if n = 1 then [.setScreenOff]
        else if n = 4 then [.setDigitDisplay (s.peek s.index)] else []) ∧
      (s'.readReg s.x).toNat = (s.index.toNat + 1) % 65536 ∧ SameRegistersBut s.x s s' ∧
      s' = { s with r := s'.r, trace := s'.trace, ma := s.index, mb := s.peek s.index }

/-- R257, R259, INP 1 to INP 7: the byte of the port (the keypad latch at port 4, whatever it answers, and
`FLOAT_BUS` at every other port) goes to memory at `R[X]` and to `D`; port 1 turns the screen on; `R[X]` is not
modified. What ports 2, 3, 5, 6 and 7 answer is the spec's decision D13 (notes/assumptions/12.md). -/
def Obligations.InpStoresThePortByte : Prop :=
  ∀ (n : PortNumber) (s : State), n ≠ 0 → encode (Instr.inpOf n) = [0b01101#5 ++ n] ∧
    ∃ s', exec (Instr.inpOf n) s = .next s' ∧
      s'.d = (if n = 4 then s.nextKeypad else s.cfg.floatBus) ∧ StoresByte s.index s'.d s s' ∧
      s'.trace = s.trace ++ (if n = 1 then [.setScreenOn]
        else if n = 4 then [.readKeypadLatch s.nextKeypad] else []) ∧
      s'.keypadQueries = s.keypadQueries + (if n = 4 then 1 else 0) ∧
      s'.keypadAnswers = (if n = 4 then s.keypadAnswers.tail else s.keypadAnswers) ∧
      s' = { s with d := s'.d, mem := s'.mem, trace := s'.trace, keypadAnswers := s'.keypadAnswers
                    keypadQueries := s'.keypadQueries, ma := s.index, mb := s'.d }

/-! ### Memory -/

/-- R62 to R64: after `MemWrite(a, 1, v)`, `MemRead` returns `v` at `a` if `a` is in bounds, and at every other
address what it returned before; out of bounds it returns `FLOAT_BUS`; both set the latches and change nothing
else. -/
def Obligations.MemReadAfterMemWrite : Prop :=
  ∀ (s : State) (a b : Word) (v : Byte),
    ((s.memWrite a v).memRead b).1 = (if b = a ∧ a.toNat < s.cfg.memSize then v else (s.memRead b).1) ∧
    (¬ b.toNat < s.cfg.memSize → (s.memRead b).1 = s.cfg.floatBus) ∧
    (s.memRead b).2 = { s with ma := b, mb := (s.memRead b).1 } ∧
    s.memWrite a v = { s with ma := a, mb := v, mem := (s.memWrite a v).mem }

/-- R83 over a whole step: STR N with N = P puts `D` into the byte after the opcode, in bounds, and that is the
next opcode fetched; no interrupt can change this unless it changes `P`. -/
def Obligations.StoreIsSeenByTheNextFetch : Prop :=
  ∀ s : State, s.opcode = 0b0101#4 ++ s.p → s.inBounds (s.pc + 1) = true → s.ie = false →
    ∃ s', step s = .next s' ∧ s'.pc = s.pc + 1 ∧ s'.opcode = s.d

/-! ### The step -/

/-- A STEP RUNS THE DECODED INSTRUCTION (R110 to R112): where the bytes at the program counter decode to `i`, the
step executes `i` on the state after the opcode fetch (latches set by the read at `R[P]`, `R[P]` one on) and then
runs the cycle advance, the interrupt check and the frame check, in that order. -/
def Obligations.StepRunsTheDecodedInstruction : Prop :=
  ∀ (s s' : State) (i : Instr) (rest : List Byte),
    decode [s.peek s.pc, s.peek (s.pc + 1), s.peek (s.pc + 2)] = .ok (i, rest) →
    exec i ({ s with ma := s.pc, mb := s.peek s.pc }.setPc (s.pc + 1)) = .next s' →
    step s = .next { s' with cyc := s'.cyc + 2 }.interruptCheck.frameCheck

/-- R14, R111: an operand byte the decoder read at `R[P]` is fetched exactly as `Fetch()` fetches it, and a short
branch's as a plain `MemRead` reads it. -/
def Obligations.OperandFetchIsFetch : Prop :=
  ∀ s : State, s.fetch = (s.peek s.pc, s.fetchOperand (s.peek s.pc)) ∧
    s.memRead s.pc = (s.peek s.pc, s.readOperand (s.peek s.pc)) ∧
    s.fetch.2.pc = s.pc + 1 ∧ SameRegistersBut s.p s s.fetch.2

/-- R114, R272: with `CYC` at or past the interrupt point and `IE` set, `T` takes `X : P`, `P` and `X` become 1 and
2, `IE` is cleared and `CYC` is pinned to `FRAME_CYCLES - 29`; nothing else changes. Else nothing happens. The values
1 and 2, the order of the nibbles and "at or past" are the spec's decisions D5, D6, D19 (notes/assumptions/11.md,
16.md). -/
def Obligations.InterruptCheckDelivers : Prop :=
  ∀ s : State,
    (s.cfg.frameCycles - 29 ≤ s.cyc ∧ s.ie = true →
      s.interruptCheck = { s with t := s.interruptCheck.t, p := 1, x := 2, ie := false
                                  cyc := s.cfg.frameCycles - 29 } ∧
      s.interruptCheck.t.toNat = s.x.toNat * 16 + s.p.toNat) ∧
    (¬(s.cfg.frameCycles - 29 ≤ s.cyc ∧ s.ie = true) → s.interruptCheck = s)

/-- R115, R116: with `CYC` at or past the budget, `R[P]` is published, with a pointer when 256 bytes of memory lie
ahead of it, the end of the frame is notified, the budget is subtracted, and the result is 60; else it is 0.
When 256 bytes lie ahead is the spec's decision D20 (notes/assumptions/15.md). -/
def Obligations.FrameCheckCompletesTheFrame : Prop :=
  ∀ s : State, s.frameCheck =
    if s.cfg.frameCycles ≤ s.cyc then
      { s with cyc := s.cyc - s.cfg.frameCycles, result := 60
               trace := s.trace ++ [.setDisplayPage s.pc
                 (if s.pc.toNat + 256 ≤ s.cfg.memSize then some s.pc.toNat else none), .endOfFrame] }
    else { s with result := 0 }

/-- R114, R120, R275 over a whole step: when the instruction leaves `IE` set with the counter, advanced, at or past
the interrupt point, the interrupt is delivered in this same step, and the frame is not completed in it even if
the counter had passed the boundary too. It rests on the spec's decisions D5, D6, D19 (notes/assumptions/11.md,
16.md). -/
def Obligations.InterruptWinsOverTheFrame : Prop :=
  ∀ s u : State, s.cfg.wf = true → exec s.instruction s.fetchOpcode = .next u → u.ie = true →
    s.cfg.frameCycles - 29 ≤ u.cyc + 2 →
    ∃ s', step s = .next s' ∧ s'.ie = false ∧ s'.p = 1 ∧ s'.x = 2 ∧ s'.t.toNat = u.x.toNat * 16 + u.p.toNat ∧
      s'.cyc = s.cfg.frameCycles - 29 ∧ s'.result = 0 ∧ s'.r = u.r ∧ s'.mem = u.mem ∧ s'.d = u.d ∧
      s'.df = u.df ∧ s'.q = u.q ∧ s'.trace = u.trace

/-- R330, R282: RET at or past the interrupt point is followed by an interrupt in the same step, which saves the
pair just restored and pins the counter back. It rests on the spec's decisions D5, D6, D19
(notes/assumptions/11.md, 16.md). -/
def Obligations.EarlyRetIsInterruptedAtOnce : Prop :=
  ∀ s : State, s.cfg.wf = true → s.opcode = 0x70#8 → s.cfg.frameCycles - 29 ≤ s.cyc + 2 →
    ∃ s', step s = .next s' ∧ s'.t = s.peek s.fetchOpcode.index ∧ s'.p = 1 ∧ s'.x = 2 ∧ s'.ie = false ∧
      s'.cyc = s.cfg.frameCycles - 29 ∧ s'.result = 0

/-- R121: every step completes, with no fault and no refusal, and returns 0 or 60. -/
def Obligations.EveryStepCompletes : Prop :=
  ∀ s : State, ∃ s', step s = .next s' ∧ (s'.result = 0 ∨ s'.result = 60)

/-! ### What only some instructions can do -/

/-- R31, R51, R271 over a whole step: `IE` becomes 1 only in a step that executes RET. -/
def Obligations.OnlyRetSetsIE : Prop :=
  ∀ s s' : State, step s = .next s' → s.ie = false → s'.ie = true → s.opcode = 0x70#8

/-- R29, R30, R31, R24, R25, R32, R40, in phase 2: `DF` changes only by the opcodes R29 lists, `Q` only by SEQ and
REQ, `IE` only by RET and DIS, `P` only by SEP, RET and DIS, `X` only by SEX, RET, DIS and MARK, `T` only by MARK;
`CYC` and the parameters change by none. -/
def Obligations.OnlyListedOpcodesChangeEachRegister : Prop :=
  ∀ (i : Instr) (s s' : State), exec i s = .next s' →
    (s'.df ≠ s.df → opcodeOf i ∈ [0xF4#8, 0xFC, 0x74, 0x7C, 0xF5, 0xFD, 0x75, 0x7D, 0xF7, 0xFF, 0x77, 0x7F,
      0xF6, 0x76, 0xFE, 0x7E]) ∧
    (s'.q ≠ s.q → i = .seq ∨ i = .req) ∧ (s'.ie ≠ s.ie → i = .ret ∨ i = .dis) ∧
    (s'.p ≠ s.p → opcodeI (opcodeOf i) = 0xD ∨ i = .ret ∨ i = .dis) ∧
    (s'.x ≠ s.x → opcodeI (opcodeOf i) = 0xE ∨ i = .ret ∨ i = .dis ∨ i = .mark) ∧
    (s'.t ≠ s.t → i = .mark) ∧ s'.cyc = s.cyc ∧ s'.cfg = s.cfg

/-- R45, R81, R82 in phase 2: memory changes only by STR, STXD, SAV, MARK and INP. Every other instruction leaves
the whole of it, so every byte of it, as it was. -/
def Obligations.OnlyStoresChangeMemory : Prop :=
  ∀ (i : Instr) (s s' : State), exec i s = .next s' →
    (opcodeI (opcodeOf i) ≠ 5 → i ≠ .stxd → i ≠ .sav → i ≠ .mark →
      ¬(0x69#8 ≤ opcodeOf i ∧ opcodeOf i ≤ 0x6F#8) → s'.mem = s.mem ∧ ∀ a, s'.peek a = s.peek a)

/-- R122 in phase 2: an instruction makes at most one call to the Hardware Interface, and only OUT 1, OUT 4, INP 1,
INP 4, B4 and BN4 make one. -/
def Obligations.AtMostOneInterfaceCall : Prop :=
  ∀ (i : Instr) (s s' : State), exec i s = .next s' →
    (∃ c, s'.trace = s.trace ++ [c] ∧
      opcodeOf i ∈ [0x61#8, 0x64, 0x69, 0x6C, 0x37, 0x3F]) ∨ s'.trace = s.trace

/-- R42: no program can observe what an earlier access left in the bus latches: with other values in `MA` and `MB`
every instruction leaves the same state but for `MA` and `MB`, and every step leaves the very same state. -/
def Obligations.LatchesAreUnobservable : Prop :=
  ∀ (i : Instr) (s s' : State) (a : Word) (b : Byte), exec i s = .next s' →
    (∃ u, exec i { s with ma := a, mb := b } = .next u ∧ { u with ma := s'.ma, mb := s'.mb } = s') ∧
    step { s with ma := a, mb := b } = step s

/-! ### Reset, the host, invariants -/

/-- R50, R310, R311: after a reset, the first one or a later one from any state, every register, flag, counter and
latch is zero and every byte of memory in bounds reads 0, whatever the parameters; a reset notification is the last
call made, and the first one when nothing came before. `IE` = 0, memory cleared by every reset and the zero `CYC`,
`MA`, `MB` are the spec's decisions D7 to D9 (notes/assumptions/7.md). -/
def Obligations.ResetZeroesEverything : Prop :=
  ∀ s u : State, u = State.resetWith s.cfg ∨ u = s.hostReset →
    (∀ n, u.readReg n = 0) ∧ u.d = 0 ∧ u.df = false ∧ u.q = false ∧ u.ie = false ∧ u.p = 0 ∧ u.x = 0 ∧ u.t = 0 ∧
    u.cyc = 0 ∧ u.ma = 0 ∧ u.mb = 0 ∧ (∀ a : Word, a.toNat < s.cfg.memSize → u.peek a = 0) ∧ u.cfg = s.cfg ∧
    (State.resetWith s.cfg).trace = [.resetNotification] ∧ s.hostReset.trace = s.trace ++ [.resetNotification]

/-- R85: `loadImage` overwrites memory from offset 0 with as many of the bytes as there is memory for, leaves the
rest of memory as it was, and changes nothing else. -/
def Obligations.LoadImageOverwritesFromZero : Prop :=
  ∀ (s : State) (bytes : List Byte),
    (∀ a : Word, (s.loadImage bytes).peek a =
      if a.toNat < s.cfg.memSize ∧ a.toNat < bytes.length then bytes.getD a.toNat 0 else s.peek a) ∧
    s.loadImage bytes = { s with mem := (s.loadImage bytes).mem }

/-- The invariant holds after reset, for every choice of parameters that R6 and R7 allow. -/
def Obligations.InvariantHoldsAtReset : Prop :=
  ∀ c : Config, c.wf = true → (State.resetWith c).Inv

/-- AN INVARIANT EVERY STEP KEEPS (R40, R117, R61, R10): from every state that meets it, a step leaves a state that
meets it: `CYC` below the budget, memory in canonical form and in bounds. The parameters never change. The host's
reset and load keep it too. -/
def Obligations.EveryStepKeepsTheInvariant : Prop :=
  ∀ s : State, s.Inv →
    (∀ s', step s = .next s' → s'.Inv ∧ s'.cfg = s.cfg) ∧ s.hostReset.Inv ∧ ∀ bytes, (s.loadImage bytes).Inv

/-! ### Frames and interrupts over many steps -/

/-- R118: while `IE` is 0 and no step executes RET, `n` steps complete exactly as many frames as the running total
of cycles crosses multiples of the budget, carry the remainder, and return 60 exactly on the steps that cross one;
each frame makes one end-of-frame notification. -/
def Obligations.FrameCadenceWithoutInterrupts : Prop :=
  ∀ (n : Nat) (s : State), s.Inv → s.ie = false → avoidsRet n s = true →
    ∃ s', runSteps n s = .next s' ∧ s'.ie = false ∧
      s'.frames = s.frames + (s.cyc + 2 * n) / s.cfg.frameCycles ∧
      s'.cyc = (s.cyc + 2 * n) % s.cfg.frameCycles ∧
      (0 < n → s'.result =
        if (s.cyc + 2 * n) / s.cfg.frameCycles = (s.cyc + 2 * (n - 1)) / s.cfg.frameCycles then 0 else 60)

/-- R119, R321: after a delivery (`CYC` at the interrupt point, `IE` 0), if none of the next fifteen steps executes
RET, the first fourteen return 0 and the fifteenth completes the frame, leaving `CYC = 1`. -/
def Obligations.FrameEndsFifteenStepsAfterDelivery : Prop :=
  ∀ s : State, s.Inv → s.ie = false → s.cyc = s.cfg.frameCycles - 29 → avoidsRet 15 s = true →
    (∀ k, 1 ≤ k → k ≤ 14 → ∃ u, runSteps k s = .next u ∧ u.result = 0 ∧
      u.cyc = s.cfg.frameCycles - 29 + 2 * k) ∧
    ∃ u, runSteps 15 s = .next u ∧ u.result = 60 ∧ u.cyc = 1 ∧ u.frames = s.frames + 1

/-- R235, R339, R342: at an IDL with `IE` 0 the machine holds for ever: after any number of steps only `CYC`, the
latches and what the host and the Hardware Interface are told have changed. It rests on the spec's decision D11
(notes/assumptions/6.md). -/
def Obligations.IdlWithInterruptsOffHoldsForEver : Prop :=
  ∀ (n : Nat) (s : State), s.opcode = 0x00#8 → s.ie = false →
    ∃ s', runSteps n s = .next s' ∧
      s' = { s with cyc := s'.cyc, ma := s'.ma, mb := s'.mb, trace := s'.trace, result := s'.result }
end

