-- ==== Sys2Proof/Laws/State.lean ====
section
/-! SUPPORT. What each update of the state leaves each field as: one lemma per field per update, so that no proof
unfolds a record update; then what each leaves of the registers and of the bytes of memory. -/

namespace Sys2Proof.Machine

/-! ### writeReg -/

@[simp] theorem State.writeReg_r (s : State) (n : Nibble) (v : Word) : (s.writeReg n v).r = s.r.set n.toNat v n.isLt := rfl
@[simp] theorem State.writeReg_d (s : State) (n : Nibble) (v : Word) : (s.writeReg n v).d = s.d := rfl
@[simp] theorem State.writeReg_df (s : State) (n : Nibble) (v : Word) : (s.writeReg n v).df = s.df := rfl
@[simp] theorem State.writeReg_q (s : State) (n : Nibble) (v : Word) : (s.writeReg n v).q = s.q := rfl
@[simp] theorem State.writeReg_ie (s : State) (n : Nibble) (v : Word) : (s.writeReg n v).ie = s.ie := rfl
@[simp] theorem State.writeReg_p (s : State) (n : Nibble) (v : Word) : (s.writeReg n v).p = s.p := rfl
@[simp] theorem State.writeReg_x (s : State) (n : Nibble) (v : Word) : (s.writeReg n v).x = s.x := rfl
@[simp] theorem State.writeReg_t (s : State) (n : Nibble) (v : Word) : (s.writeReg n v).t = s.t := rfl
@[simp] theorem State.writeReg_cyc (s : State) (n : Nibble) (v : Word) : (s.writeReg n v).cyc = s.cyc := rfl
@[simp] theorem State.writeReg_ma (s : State) (n : Nibble) (v : Word) : (s.writeReg n v).ma = s.ma := rfl
@[simp] theorem State.writeReg_mb (s : State) (n : Nibble) (v : Word) : (s.writeReg n v).mb = s.mb := rfl
@[simp] theorem State.writeReg_mem (s : State) (n : Nibble) (v : Word) : (s.writeReg n v).mem = s.mem := rfl
@[simp] theorem State.writeReg_cfg (s : State) (n : Nibble) (v : Word) : (s.writeReg n v).cfg = s.cfg := rfl
@[simp] theorem State.writeReg_keypadAnswers (s : State) (n : Nibble) (v : Word) : (s.writeReg n v).keypadAnswers = s.keypadAnswers := rfl
@[simp] theorem State.writeReg_keypadQueries (s : State) (n : Nibble) (v : Word) : (s.writeReg n v).keypadQueries = s.keypadQueries := rfl
@[simp] theorem State.writeReg_keyAnswers (s : State) (n : Nibble) (v : Word) : (s.writeReg n v).keyAnswers = s.keyAnswers := rfl
@[simp] theorem State.writeReg_keyQueries (s : State) (n : Nibble) (v : Word) : (s.writeReg n v).keyQueries = s.keyQueries := rfl
@[simp] theorem State.writeReg_trace (s : State) (n : Nibble) (v : Word) : (s.writeReg n v).trace = s.trace := rfl
@[simp] theorem State.writeReg_result (s : State) (n : Nibble) (v : Word) : (s.writeReg n v).result = s.result := rfl
@[simp] theorem State.writeReg_peek (s : State) (n : Nibble) (v : Word) (a' : Word) : (s.writeReg n v).peek a' = s.peek a' := rfl

/-! ### setPc -/

@[simp] theorem State.setPc_r (s : State) (v : Word) : (s.setPc v).r = s.r.set s.p.toNat v s.p.isLt := rfl
@[simp] theorem State.setPc_d (s : State) (v : Word) : (s.setPc v).d = s.d := rfl
@[simp] theorem State.setPc_df (s : State) (v : Word) : (s.setPc v).df = s.df := rfl
@[simp] theorem State.setPc_q (s : State) (v : Word) : (s.setPc v).q = s.q := rfl
@[simp] theorem State.setPc_ie (s : State) (v : Word) : (s.setPc v).ie = s.ie := rfl
@[simp] theorem State.setPc_p (s : State) (v : Word) : (s.setPc v).p = s.p := rfl
@[simp] theorem State.setPc_x (s : State) (v : Word) : (s.setPc v).x = s.x := rfl
@[simp] theorem State.setPc_t (s : State) (v : Word) : (s.setPc v).t = s.t := rfl
@[simp] theorem State.setPc_cyc (s : State) (v : Word) : (s.setPc v).cyc = s.cyc := rfl
@[simp] theorem State.setPc_ma (s : State) (v : Word) : (s.setPc v).ma = s.ma := rfl
@[simp] theorem State.setPc_mb (s : State) (v : Word) : (s.setPc v).mb = s.mb := rfl
@[simp] theorem State.setPc_mem (s : State) (v : Word) : (s.setPc v).mem = s.mem := rfl
@[simp] theorem State.setPc_cfg (s : State) (v : Word) : (s.setPc v).cfg = s.cfg := rfl
@[simp] theorem State.setPc_keypadAnswers (s : State) (v : Word) : (s.setPc v).keypadAnswers = s.keypadAnswers := rfl
@[simp] theorem State.setPc_keypadQueries (s : State) (v : Word) : (s.setPc v).keypadQueries = s.keypadQueries := rfl
@[simp] theorem State.setPc_keyAnswers (s : State) (v : Word) : (s.setPc v).keyAnswers = s.keyAnswers := rfl
@[simp] theorem State.setPc_keyQueries (s : State) (v : Word) : (s.setPc v).keyQueries = s.keyQueries := rfl
@[simp] theorem State.setPc_trace (s : State) (v : Word) : (s.setPc v).trace = s.trace := rfl
@[simp] theorem State.setPc_result (s : State) (v : Word) : (s.setPc v).result = s.result := rfl
@[simp] theorem State.setPc_peek (s : State) (v : Word) (a' : Word) : (s.setPc v).peek a' = s.peek a' := rfl

/-! ### incReg -/

@[simp] theorem State.incReg_r (s : State) (n : Nibble) : (s.incReg n).r = s.r.set n.toNat (s.readReg n + 1) n.isLt := rfl
@[simp] theorem State.incReg_d (s : State) (n : Nibble) : (s.incReg n).d = s.d := rfl
@[simp] theorem State.incReg_df (s : State) (n : Nibble) : (s.incReg n).df = s.df := rfl
@[simp] theorem State.incReg_q (s : State) (n : Nibble) : (s.incReg n).q = s.q := rfl
@[simp] theorem State.incReg_ie (s : State) (n : Nibble) : (s.incReg n).ie = s.ie := rfl
@[simp] theorem State.incReg_p (s : State) (n : Nibble) : (s.incReg n).p = s.p := rfl
@[simp] theorem State.incReg_x (s : State) (n : Nibble) : (s.incReg n).x = s.x := rfl
@[simp] theorem State.incReg_t (s : State) (n : Nibble) : (s.incReg n).t = s.t := rfl
@[simp] theorem State.incReg_cyc (s : State) (n : Nibble) : (s.incReg n).cyc = s.cyc := rfl
@[simp] theorem State.incReg_ma (s : State) (n : Nibble) : (s.incReg n).ma = s.ma := rfl
@[simp] theorem State.incReg_mb (s : State) (n : Nibble) : (s.incReg n).mb = s.mb := rfl
@[simp] theorem State.incReg_mem (s : State) (n : Nibble) : (s.incReg n).mem = s.mem := rfl
@[simp] theorem State.incReg_cfg (s : State) (n : Nibble) : (s.incReg n).cfg = s.cfg := rfl
@[simp] theorem State.incReg_keypadAnswers (s : State) (n : Nibble) : (s.incReg n).keypadAnswers = s.keypadAnswers := rfl
@[simp] theorem State.incReg_keypadQueries (s : State) (n : Nibble) : (s.incReg n).keypadQueries = s.keypadQueries := rfl
@[simp] theorem State.incReg_keyAnswers (s : State) (n : Nibble) : (s.incReg n).keyAnswers = s.keyAnswers := rfl
@[simp] theorem State.incReg_keyQueries (s : State) (n : Nibble) : (s.incReg n).keyQueries = s.keyQueries := rfl
@[simp] theorem State.incReg_trace (s : State) (n : Nibble) : (s.incReg n).trace = s.trace := rfl
@[simp] theorem State.incReg_result (s : State) (n : Nibble) : (s.incReg n).result = s.result := rfl
@[simp] theorem State.incReg_peek (s : State) (n : Nibble) (a' : Word) : (s.incReg n).peek a' = s.peek a' := rfl

/-! ### decReg -/

@[simp] theorem State.decReg_r (s : State) (n : Nibble) : (s.decReg n).r = s.r.set n.toNat (s.readReg n - 1) n.isLt := rfl
@[simp] theorem State.decReg_d (s : State) (n : Nibble) : (s.decReg n).d = s.d := rfl
@[simp] theorem State.decReg_df (s : State) (n : Nibble) : (s.decReg n).df = s.df := rfl
@[simp] theorem State.decReg_q (s : State) (n : Nibble) : (s.decReg n).q = s.q := rfl
@[simp] theorem State.decReg_ie (s : State) (n : Nibble) : (s.decReg n).ie = s.ie := rfl
@[simp] theorem State.decReg_p (s : State) (n : Nibble) : (s.decReg n).p = s.p := rfl
@[simp] theorem State.decReg_x (s : State) (n : Nibble) : (s.decReg n).x = s.x := rfl
@[simp] theorem State.decReg_t (s : State) (n : Nibble) : (s.decReg n).t = s.t := rfl
@[simp] theorem State.decReg_cyc (s : State) (n : Nibble) : (s.decReg n).cyc = s.cyc := rfl
@[simp] theorem State.decReg_ma (s : State) (n : Nibble) : (s.decReg n).ma = s.ma := rfl
@[simp] theorem State.decReg_mb (s : State) (n : Nibble) : (s.decReg n).mb = s.mb := rfl
@[simp] theorem State.decReg_mem (s : State) (n : Nibble) : (s.decReg n).mem = s.mem := rfl
@[simp] theorem State.decReg_cfg (s : State) (n : Nibble) : (s.decReg n).cfg = s.cfg := rfl
@[simp] theorem State.decReg_keypadAnswers (s : State) (n : Nibble) : (s.decReg n).keypadAnswers = s.keypadAnswers := rfl
@[simp] theorem State.decReg_keypadQueries (s : State) (n : Nibble) : (s.decReg n).keypadQueries = s.keypadQueries := rfl
@[simp] theorem State.decReg_keyAnswers (s : State) (n : Nibble) : (s.decReg n).keyAnswers = s.keyAnswers := rfl
@[simp] theorem State.decReg_keyQueries (s : State) (n : Nibble) : (s.decReg n).keyQueries = s.keyQueries := rfl
@[simp] theorem State.decReg_trace (s : State) (n : Nibble) : (s.decReg n).trace = s.trace := rfl
@[simp] theorem State.decReg_result (s : State) (n : Nibble) : (s.decReg n).result = s.result := rfl
@[simp] theorem State.decReg_peek (s : State) (n : Nibble) (a' : Word) : (s.decReg n).peek a' = s.peek a' := rfl

/-! ### setD -/

@[simp] theorem State.setD_r (s : State) (v : Byte) : (s.setD v).r = s.r := rfl
@[simp] theorem State.setD_d (s : State) (v : Byte) : (s.setD v).d = v := rfl
@[simp] theorem State.setD_df (s : State) (v : Byte) : (s.setD v).df = s.df := rfl
@[simp] theorem State.setD_q (s : State) (v : Byte) : (s.setD v).q = s.q := rfl
@[simp] theorem State.setD_ie (s : State) (v : Byte) : (s.setD v).ie = s.ie := rfl
@[simp] theorem State.setD_p (s : State) (v : Byte) : (s.setD v).p = s.p := rfl
@[simp] theorem State.setD_x (s : State) (v : Byte) : (s.setD v).x = s.x := rfl
@[simp] theorem State.setD_t (s : State) (v : Byte) : (s.setD v).t = s.t := rfl
@[simp] theorem State.setD_cyc (s : State) (v : Byte) : (s.setD v).cyc = s.cyc := rfl
@[simp] theorem State.setD_ma (s : State) (v : Byte) : (s.setD v).ma = s.ma := rfl
@[simp] theorem State.setD_mb (s : State) (v : Byte) : (s.setD v).mb = s.mb := rfl
@[simp] theorem State.setD_mem (s : State) (v : Byte) : (s.setD v).mem = s.mem := rfl
@[simp] theorem State.setD_cfg (s : State) (v : Byte) : (s.setD v).cfg = s.cfg := rfl
@[simp] theorem State.setD_keypadAnswers (s : State) (v : Byte) : (s.setD v).keypadAnswers = s.keypadAnswers := rfl
@[simp] theorem State.setD_keypadQueries (s : State) (v : Byte) : (s.setD v).keypadQueries = s.keypadQueries := rfl
@[simp] theorem State.setD_keyAnswers (s : State) (v : Byte) : (s.setD v).keyAnswers = s.keyAnswers := rfl
@[simp] theorem State.setD_keyQueries (s : State) (v : Byte) : (s.setD v).keyQueries = s.keyQueries := rfl
@[simp] theorem State.setD_trace (s : State) (v : Byte) : (s.setD v).trace = s.trace := rfl
@[simp] theorem State.setD_result (s : State) (v : Byte) : (s.setD v).result = s.result := rfl
@[simp] theorem State.setD_peek (s : State) (v : Byte) (a' : Word) : (s.setD v).peek a' = s.peek a' := rfl
@[simp] theorem State.setD_readReg (s : State) (v : Byte) (m : Nibble) : (s.setD v).readReg m = s.readReg m := rfl
@[simp] theorem State.setD_pc (s : State) (v : Byte) : (s.setD v).pc = s.pc := rfl
@[simp] theorem State.setD_index (s : State) (v : Byte) : (s.setD v).index = s.index := rfl

/-! ### setAlu -/

@[simp] theorem State.setAlu_r (s : State) (a : Byte × Bool) : (s.setAlu a).r = s.r := rfl
@[simp] theorem State.setAlu_d (s : State) (a : Byte × Bool) : (s.setAlu a).d = a.1 := rfl
@[simp] theorem State.setAlu_df (s : State) (a : Byte × Bool) : (s.setAlu a).df = a.2 := rfl
@[simp] theorem State.setAlu_q (s : State) (a : Byte × Bool) : (s.setAlu a).q = s.q := rfl
@[simp] theorem State.setAlu_ie (s : State) (a : Byte × Bool) : (s.setAlu a).ie = s.ie := rfl
@[simp] theorem State.setAlu_p (s : State) (a : Byte × Bool) : (s.setAlu a).p = s.p := rfl
@[simp] theorem State.setAlu_x (s : State) (a : Byte × Bool) : (s.setAlu a).x = s.x := rfl
@[simp] theorem State.setAlu_t (s : State) (a : Byte × Bool) : (s.setAlu a).t = s.t := rfl
@[simp] theorem State.setAlu_cyc (s : State) (a : Byte × Bool) : (s.setAlu a).cyc = s.cyc := rfl
@[simp] theorem State.setAlu_ma (s : State) (a : Byte × Bool) : (s.setAlu a).ma = s.ma := rfl
@[simp] theorem State.setAlu_mb (s : State) (a : Byte × Bool) : (s.setAlu a).mb = s.mb := rfl
@[simp] theorem State.setAlu_mem (s : State) (a : Byte × Bool) : (s.setAlu a).mem = s.mem := rfl
@[simp] theorem State.setAlu_cfg (s : State) (a : Byte × Bool) : (s.setAlu a).cfg = s.cfg := rfl
@[simp] theorem State.setAlu_keypadAnswers (s : State) (a : Byte × Bool) : (s.setAlu a).keypadAnswers = s.keypadAnswers := rfl
@[simp] theorem State.setAlu_keypadQueries (s : State) (a : Byte × Bool) : (s.setAlu a).keypadQueries = s.keypadQueries := rfl
@[simp] theorem State.setAlu_keyAnswers (s : State) (a : Byte × Bool) : (s.setAlu a).keyAnswers = s.keyAnswers := rfl
@[simp] theorem State.setAlu_keyQueries (s : State) (a : Byte × Bool) : (s.setAlu a).keyQueries = s.keyQueries := rfl
@[simp] theorem State.setAlu_trace (s : State) (a : Byte × Bool) : (s.setAlu a).trace = s.trace := rfl
@[simp] theorem State.setAlu_result (s : State) (a : Byte × Bool) : (s.setAlu a).result = s.result := rfl
@[simp] theorem State.setAlu_peek (s : State) (a : Byte × Bool) (a' : Word) : (s.setAlu a).peek a' = s.peek a' := rfl
@[simp] theorem State.setAlu_readReg (s : State) (a : Byte × Bool) (m : Nibble) : (s.setAlu a).readReg m = s.readReg m := rfl
@[simp] theorem State.setAlu_pc (s : State) (a : Byte × Bool) : (s.setAlu a).pc = s.pc := rfl
@[simp] theorem State.setAlu_index (s : State) (a : Byte × Bool) : (s.setAlu a).index = s.index := rfl

/-! ### call -/

@[simp] theorem State.call_r (s : State) (c : HwCall) : (s.call c).r = s.r := rfl
@[simp] theorem State.call_d (s : State) (c : HwCall) : (s.call c).d = s.d := rfl
@[simp] theorem State.call_df (s : State) (c : HwCall) : (s.call c).df = s.df := rfl
@[simp] theorem State.call_q (s : State) (c : HwCall) : (s.call c).q = s.q := rfl
@[simp] theorem State.call_ie (s : State) (c : HwCall) : (s.call c).ie = s.ie := rfl
@[simp] theorem State.call_p (s : State) (c : HwCall) : (s.call c).p = s.p := rfl
@[simp] theorem State.call_x (s : State) (c : HwCall) : (s.call c).x = s.x := rfl
@[simp] theorem State.call_t (s : State) (c : HwCall) : (s.call c).t = s.t := rfl
@[simp] theorem State.call_cyc (s : State) (c : HwCall) : (s.call c).cyc = s.cyc := rfl
@[simp] theorem State.call_ma (s : State) (c : HwCall) : (s.call c).ma = s.ma := rfl
@[simp] theorem State.call_mb (s : State) (c : HwCall) : (s.call c).mb = s.mb := rfl
@[simp] theorem State.call_mem (s : State) (c : HwCall) : (s.call c).mem = s.mem := rfl
@[simp] theorem State.call_cfg (s : State) (c : HwCall) : (s.call c).cfg = s.cfg := rfl
@[simp] theorem State.call_keypadAnswers (s : State) (c : HwCall) : (s.call c).keypadAnswers = s.keypadAnswers := rfl
@[simp] theorem State.call_keypadQueries (s : State) (c : HwCall) : (s.call c).keypadQueries = s.keypadQueries := rfl
@[simp] theorem State.call_keyAnswers (s : State) (c : HwCall) : (s.call c).keyAnswers = s.keyAnswers := rfl
@[simp] theorem State.call_keyQueries (s : State) (c : HwCall) : (s.call c).keyQueries = s.keyQueries := rfl
@[simp] theorem State.call_trace (s : State) (c : HwCall) : (s.call c).trace = s.trace ++ [c] := rfl
@[simp] theorem State.call_result (s : State) (c : HwCall) : (s.call c).result = s.result := rfl
@[simp] theorem State.call_peek (s : State) (c : HwCall) (a' : Word) : (s.call c).peek a' = s.peek a' := rfl
@[simp] theorem State.call_readReg (s : State) (c : HwCall) (m : Nibble) : (s.call c).readReg m = s.readReg m := rfl
@[simp] theorem State.call_pc (s : State) (c : HwCall) : (s.call c).pc = s.pc := rfl
@[simp] theorem State.call_index (s : State) (c : HwCall) : (s.call c).index = s.index := rfl

/-! ### poke -/

@[simp] theorem State.poke_r (s : State) (a : Word) (v : Byte) : (s.poke a v).r = s.r := rfl
@[simp] theorem State.poke_d (s : State) (a : Word) (v : Byte) : (s.poke a v).d = s.d := rfl
@[simp] theorem State.poke_df (s : State) (a : Word) (v : Byte) : (s.poke a v).df = s.df := rfl
@[simp] theorem State.poke_q (s : State) (a : Word) (v : Byte) : (s.poke a v).q = s.q := rfl
@[simp] theorem State.poke_ie (s : State) (a : Word) (v : Byte) : (s.poke a v).ie = s.ie := rfl
@[simp] theorem State.poke_p (s : State) (a : Word) (v : Byte) : (s.poke a v).p = s.p := rfl
@[simp] theorem State.poke_x (s : State) (a : Word) (v : Byte) : (s.poke a v).x = s.x := rfl
@[simp] theorem State.poke_t (s : State) (a : Word) (v : Byte) : (s.poke a v).t = s.t := rfl
@[simp] theorem State.poke_cyc (s : State) (a : Word) (v : Byte) : (s.poke a v).cyc = s.cyc := rfl
@[simp] theorem State.poke_ma (s : State) (a : Word) (v : Byte) : (s.poke a v).ma = s.ma := rfl
@[simp] theorem State.poke_mb (s : State) (a : Word) (v : Byte) : (s.poke a v).mb = s.mb := rfl
@[simp] theorem State.poke_cfg (s : State) (a : Word) (v : Byte) : (s.poke a v).cfg = s.cfg := rfl
@[simp] theorem State.poke_keypadAnswers (s : State) (a : Word) (v : Byte) : (s.poke a v).keypadAnswers = s.keypadAnswers := rfl
@[simp] theorem State.poke_keypadQueries (s : State) (a : Word) (v : Byte) : (s.poke a v).keypadQueries = s.keypadQueries := rfl
@[simp] theorem State.poke_keyAnswers (s : State) (a : Word) (v : Byte) : (s.poke a v).keyAnswers = s.keyAnswers := rfl
@[simp] theorem State.poke_keyQueries (s : State) (a : Word) (v : Byte) : (s.poke a v).keyQueries = s.keyQueries := rfl
@[simp] theorem State.poke_trace (s : State) (a : Word) (v : Byte) : (s.poke a v).trace = s.trace := rfl
@[simp] theorem State.poke_result (s : State) (a : Word) (v : Byte) : (s.poke a v).result = s.result := rfl
@[simp] theorem State.poke_readReg (s : State) (a : Word) (v : Byte) (m : Nibble) : (s.poke a v).readReg m = s.readReg m := rfl
@[simp] theorem State.poke_pc (s : State) (a : Word) (v : Byte) : (s.poke a v).pc = s.pc := rfl
@[simp] theorem State.poke_index (s : State) (a : Word) (v : Byte) : (s.poke a v).index = s.index := rfl

/-! ### memRead -/

@[simp] theorem State.memRead_r (s : State) (a : Word) : ((s.memRead a).2).r = s.r := rfl
@[simp] theorem State.memRead_d (s : State) (a : Word) : ((s.memRead a).2).d = s.d := rfl
@[simp] theorem State.memRead_df (s : State) (a : Word) : ((s.memRead a).2).df = s.df := rfl
@[simp] theorem State.memRead_q (s : State) (a : Word) : ((s.memRead a).2).q = s.q := rfl
@[simp] theorem State.memRead_ie (s : State) (a : Word) : ((s.memRead a).2).ie = s.ie := rfl
@[simp] theorem State.memRead_p (s : State) (a : Word) : ((s.memRead a).2).p = s.p := rfl
@[simp] theorem State.memRead_x (s : State) (a : Word) : ((s.memRead a).2).x = s.x := rfl
@[simp] theorem State.memRead_t (s : State) (a : Word) : ((s.memRead a).2).t = s.t := rfl
@[simp] theorem State.memRead_cyc (s : State) (a : Word) : ((s.memRead a).2).cyc = s.cyc := rfl
@[simp] theorem State.memRead_ma (s : State) (a : Word) : ((s.memRead a).2).ma = a := rfl
@[simp] theorem State.memRead_mb (s : State) (a : Word) : ((s.memRead a).2).mb = s.peek a := rfl
@[simp] theorem State.memRead_mem (s : State) (a : Word) : ((s.memRead a).2).mem = s.mem := rfl
@[simp] theorem State.memRead_cfg (s : State) (a : Word) : ((s.memRead a).2).cfg = s.cfg := rfl
@[simp] theorem State.memRead_keypadAnswers (s : State) (a : Word) : ((s.memRead a).2).keypadAnswers = s.keypadAnswers := rfl
@[simp] theorem State.memRead_keypadQueries (s : State) (a : Word) : ((s.memRead a).2).keypadQueries = s.keypadQueries := rfl
@[simp] theorem State.memRead_keyAnswers (s : State) (a : Word) : ((s.memRead a).2).keyAnswers = s.keyAnswers := rfl
@[simp] theorem State.memRead_keyQueries (s : State) (a : Word) : ((s.memRead a).2).keyQueries = s.keyQueries := rfl
@[simp] theorem State.memRead_trace (s : State) (a : Word) : ((s.memRead a).2).trace = s.trace := rfl
@[simp] theorem State.memRead_result (s : State) (a : Word) : ((s.memRead a).2).result = s.result := rfl
@[simp] theorem State.memRead_peek (s : State) (a : Word) (a' : Word) : ((s.memRead a).2).peek a' = s.peek a' := rfl
@[simp] theorem State.memRead_readReg (s : State) (a : Word) (m : Nibble) : ((s.memRead a).2).readReg m = s.readReg m := rfl
@[simp] theorem State.memRead_pc (s : State) (a : Word) : ((s.memRead a).2).pc = s.pc := rfl
@[simp] theorem State.memRead_index (s : State) (a : Word) : ((s.memRead a).2).index = s.index := rfl

/-! ### memWrite -/

@[simp] theorem State.memWrite_r (s : State) (a : Word) (v : Byte) : (s.memWrite a v).r = s.r := rfl
@[simp] theorem State.memWrite_d (s : State) (a : Word) (v : Byte) : (s.memWrite a v).d = s.d := rfl
@[simp] theorem State.memWrite_df (s : State) (a : Word) (v : Byte) : (s.memWrite a v).df = s.df := rfl
@[simp] theorem State.memWrite_q (s : State) (a : Word) (v : Byte) : (s.memWrite a v).q = s.q := rfl
@[simp] theorem State.memWrite_ie (s : State) (a : Word) (v : Byte) : (s.memWrite a v).ie = s.ie := rfl
@[simp] theorem State.memWrite_p (s : State) (a : Word) (v : Byte) : (s.memWrite a v).p = s.p := rfl
@[simp] theorem State.memWrite_x (s : State) (a : Word) (v : Byte) : (s.memWrite a v).x = s.x := rfl
@[simp] theorem State.memWrite_t (s : State) (a : Word) (v : Byte) : (s.memWrite a v).t = s.t := rfl
@[simp] theorem State.memWrite_cyc (s : State) (a : Word) (v : Byte) : (s.memWrite a v).cyc = s.cyc := rfl
@[simp] theorem State.memWrite_ma (s : State) (a : Word) (v : Byte) : (s.memWrite a v).ma = a := rfl
@[simp] theorem State.memWrite_mb (s : State) (a : Word) (v : Byte) : (s.memWrite a v).mb = v := rfl
@[simp] theorem State.memWrite_cfg (s : State) (a : Word) (v : Byte) : (s.memWrite a v).cfg = s.cfg := rfl
@[simp] theorem State.memWrite_keypadAnswers (s : State) (a : Word) (v : Byte) : (s.memWrite a v).keypadAnswers = s.keypadAnswers := rfl
@[simp] theorem State.memWrite_keypadQueries (s : State) (a : Word) (v : Byte) : (s.memWrite a v).keypadQueries = s.keypadQueries := rfl
@[simp] theorem State.memWrite_keyAnswers (s : State) (a : Word) (v : Byte) : (s.memWrite a v).keyAnswers = s.keyAnswers := rfl
@[simp] theorem State.memWrite_keyQueries (s : State) (a : Word) (v : Byte) : (s.memWrite a v).keyQueries = s.keyQueries := rfl
@[simp] theorem State.memWrite_trace (s : State) (a : Word) (v : Byte) : (s.memWrite a v).trace = s.trace := rfl
@[simp] theorem State.memWrite_result (s : State) (a : Word) (v : Byte) : (s.memWrite a v).result = s.result := rfl
@[simp] theorem State.memWrite_readReg (s : State) (a : Word) (v : Byte) (m : Nibble) : (s.memWrite a v).readReg m = s.readReg m := rfl
@[simp] theorem State.memWrite_pc (s : State) (a : Word) (v : Byte) : (s.memWrite a v).pc = s.pc := rfl
@[simp] theorem State.memWrite_index (s : State) (a : Word) (v : Byte) : (s.memWrite a v).index = s.index := rfl

/-! ### fetchOperand -/

@[simp] theorem State.fetchOperand_r (s : State) (k : Byte) : (s.fetchOperand k).r = s.r.set s.p.toNat (s.pc + 1) s.p.isLt := rfl
@[simp] theorem State.fetchOperand_d (s : State) (k : Byte) : (s.fetchOperand k).d = s.d := rfl
@[simp] theorem State.fetchOperand_df (s : State) (k : Byte) : (s.fetchOperand k).df = s.df := rfl
@[simp] theorem State.fetchOperand_q (s : State) (k : Byte) : (s.fetchOperand k).q = s.q := rfl
@[simp] theorem State.fetchOperand_ie (s : State) (k : Byte) : (s.fetchOperand k).ie = s.ie := rfl
@[simp] theorem State.fetchOperand_p (s : State) (k : Byte) : (s.fetchOperand k).p = s.p := rfl
@[simp] theorem State.fetchOperand_x (s : State) (k : Byte) : (s.fetchOperand k).x = s.x := rfl
@[simp] theorem State.fetchOperand_t (s : State) (k : Byte) : (s.fetchOperand k).t = s.t := rfl
@[simp] theorem State.fetchOperand_cyc (s : State) (k : Byte) : (s.fetchOperand k).cyc = s.cyc := rfl
@[simp] theorem State.fetchOperand_ma (s : State) (k : Byte) : (s.fetchOperand k).ma = s.pc := rfl
@[simp] theorem State.fetchOperand_mb (s : State) (k : Byte) : (s.fetchOperand k).mb = k := rfl
@[simp] theorem State.fetchOperand_mem (s : State) (k : Byte) : (s.fetchOperand k).mem = s.mem := rfl
@[simp] theorem State.fetchOperand_cfg (s : State) (k : Byte) : (s.fetchOperand k).cfg = s.cfg := rfl
@[simp] theorem State.fetchOperand_keypadAnswers (s : State) (k : Byte) : (s.fetchOperand k).keypadAnswers = s.keypadAnswers := rfl
@[simp] theorem State.fetchOperand_keypadQueries (s : State) (k : Byte) : (s.fetchOperand k).keypadQueries = s.keypadQueries := rfl
@[simp] theorem State.fetchOperand_keyAnswers (s : State) (k : Byte) : (s.fetchOperand k).keyAnswers = s.keyAnswers := rfl
@[simp] theorem State.fetchOperand_keyQueries (s : State) (k : Byte) : (s.fetchOperand k).keyQueries = s.keyQueries := rfl
@[simp] theorem State.fetchOperand_trace (s : State) (k : Byte) : (s.fetchOperand k).trace = s.trace := rfl
@[simp] theorem State.fetchOperand_result (s : State) (k : Byte) : (s.fetchOperand k).result = s.result := rfl
@[simp] theorem State.fetchOperand_peek (s : State) (k : Byte) (a' : Word) : (s.fetchOperand k).peek a' = s.peek a' := rfl

/-! ### readOperand -/

@[simp] theorem State.readOperand_r (s : State) (a : Byte) : (s.readOperand a).r = s.r := rfl
@[simp] theorem State.readOperand_d (s : State) (a : Byte) : (s.readOperand a).d = s.d := rfl
@[simp] theorem State.readOperand_df (s : State) (a : Byte) : (s.readOperand a).df = s.df := rfl
@[simp] theorem State.readOperand_q (s : State) (a : Byte) : (s.readOperand a).q = s.q := rfl
@[simp] theorem State.readOperand_ie (s : State) (a : Byte) : (s.readOperand a).ie = s.ie := rfl
@[simp] theorem State.readOperand_p (s : State) (a : Byte) : (s.readOperand a).p = s.p := rfl
@[simp] theorem State.readOperand_x (s : State) (a : Byte) : (s.readOperand a).x = s.x := rfl
@[simp] theorem State.readOperand_t (s : State) (a : Byte) : (s.readOperand a).t = s.t := rfl
@[simp] theorem State.readOperand_cyc (s : State) (a : Byte) : (s.readOperand a).cyc = s.cyc := rfl
@[simp] theorem State.readOperand_ma (s : State) (a : Byte) : (s.readOperand a).ma = s.pc := rfl
@[simp] theorem State.readOperand_mb (s : State) (a : Byte) : (s.readOperand a).mb = a := rfl
@[simp] theorem State.readOperand_mem (s : State) (a : Byte) : (s.readOperand a).mem = s.mem := rfl
@[simp] theorem State.readOperand_cfg (s : State) (a : Byte) : (s.readOperand a).cfg = s.cfg := rfl
@[simp] theorem State.readOperand_keypadAnswers (s : State) (a : Byte) : (s.readOperand a).keypadAnswers = s.keypadAnswers := rfl
@[simp] theorem State.readOperand_keypadQueries (s : State) (a : Byte) : (s.readOperand a).keypadQueries = s.keypadQueries := rfl
@[simp] theorem State.readOperand_keyAnswers (s : State) (a : Byte) : (s.readOperand a).keyAnswers = s.keyAnswers := rfl
@[simp] theorem State.readOperand_keyQueries (s : State) (a : Byte) : (s.readOperand a).keyQueries = s.keyQueries := rfl
@[simp] theorem State.readOperand_trace (s : State) (a : Byte) : (s.readOperand a).trace = s.trace := rfl
@[simp] theorem State.readOperand_result (s : State) (a : Byte) : (s.readOperand a).result = s.result := rfl
@[simp] theorem State.readOperand_peek (s : State) (a : Byte) (a' : Word) : (s.readOperand a).peek a' = s.peek a' := rfl
@[simp] theorem State.readOperand_readReg (s : State) (a : Byte) (m : Nibble) : (s.readOperand a).readReg m = s.readReg m := rfl
@[simp] theorem State.readOperand_pc (s : State) (a : Byte) : (s.readOperand a).pc = s.pc := rfl
@[simp] theorem State.readOperand_index (s : State) (a : Byte) : (s.readOperand a).index = s.index := rfl

/-! ### fetchOpcode -/

@[simp] theorem State.fetchOpcode_r (s : State) : (s.fetchOpcode).r = s.r.set s.p.toNat (s.pc + 1) s.p.isLt := rfl
@[simp] theorem State.fetchOpcode_d (s : State) : (s.fetchOpcode).d = s.d := rfl
@[simp] theorem State.fetchOpcode_df (s : State) : (s.fetchOpcode).df = s.df := rfl
@[simp] theorem State.fetchOpcode_q (s : State) : (s.fetchOpcode).q = s.q := rfl
@[simp] theorem State.fetchOpcode_ie (s : State) : (s.fetchOpcode).ie = s.ie := rfl
@[simp] theorem State.fetchOpcode_p (s : State) : (s.fetchOpcode).p = s.p := rfl
@[simp] theorem State.fetchOpcode_x (s : State) : (s.fetchOpcode).x = s.x := rfl
@[simp] theorem State.fetchOpcode_t (s : State) : (s.fetchOpcode).t = s.t := rfl
@[simp] theorem State.fetchOpcode_cyc (s : State) : (s.fetchOpcode).cyc = s.cyc := rfl
@[simp] theorem State.fetchOpcode_ma (s : State) : (s.fetchOpcode).ma = s.pc := rfl
@[simp] theorem State.fetchOpcode_mb (s : State) : (s.fetchOpcode).mb = s.opcode := rfl
@[simp] theorem State.fetchOpcode_mem (s : State) : (s.fetchOpcode).mem = s.mem := rfl
@[simp] theorem State.fetchOpcode_cfg (s : State) : (s.fetchOpcode).cfg = s.cfg := rfl
@[simp] theorem State.fetchOpcode_keypadAnswers (s : State) : (s.fetchOpcode).keypadAnswers = s.keypadAnswers := rfl
@[simp] theorem State.fetchOpcode_keypadQueries (s : State) : (s.fetchOpcode).keypadQueries = s.keypadQueries := rfl
@[simp] theorem State.fetchOpcode_keyAnswers (s : State) : (s.fetchOpcode).keyAnswers = s.keyAnswers := rfl
@[simp] theorem State.fetchOpcode_keyQueries (s : State) : (s.fetchOpcode).keyQueries = s.keyQueries := rfl
@[simp] theorem State.fetchOpcode_trace (s : State) : (s.fetchOpcode).trace = s.trace := rfl
@[simp] theorem State.fetchOpcode_result (s : State) : (s.fetchOpcode).result = s.result := rfl
@[simp] theorem State.fetchOpcode_peek (s : State) (a' : Word) : (s.fetchOpcode).peek a' = s.peek a' := rfl

/-! ### readKeypad -/

@[simp] theorem State.readKeypad_r (s : State) : (s.readKeypad.2).r = s.r := rfl
@[simp] theorem State.readKeypad_d (s : State) : (s.readKeypad.2).d = s.d := rfl
@[simp] theorem State.readKeypad_df (s : State) : (s.readKeypad.2).df = s.df := rfl
@[simp] theorem State.readKeypad_q (s : State) : (s.readKeypad.2).q = s.q := rfl
@[simp] theorem State.readKeypad_ie (s : State) : (s.readKeypad.2).ie = s.ie := rfl
@[simp] theorem State.readKeypad_p (s : State) : (s.readKeypad.2).p = s.p := rfl
@[simp] theorem State.readKeypad_x (s : State) : (s.readKeypad.2).x = s.x := rfl
@[simp] theorem State.readKeypad_t (s : State) : (s.readKeypad.2).t = s.t := rfl
@[simp] theorem State.readKeypad_cyc (s : State) : (s.readKeypad.2).cyc = s.cyc := rfl
@[simp] theorem State.readKeypad_ma (s : State) : (s.readKeypad.2).ma = s.ma := rfl
@[simp] theorem State.readKeypad_mb (s : State) : (s.readKeypad.2).mb = s.mb := rfl
@[simp] theorem State.readKeypad_mem (s : State) : (s.readKeypad.2).mem = s.mem := rfl
@[simp] theorem State.readKeypad_cfg (s : State) : (s.readKeypad.2).cfg = s.cfg := rfl
@[simp] theorem State.readKeypad_keypadAnswers (s : State) : (s.readKeypad.2).keypadAnswers = s.keypadAnswers.tail := rfl
@[simp] theorem State.readKeypad_keypadQueries (s : State) : (s.readKeypad.2).keypadQueries = s.keypadQueries + 1 := rfl
@[simp] theorem State.readKeypad_keyAnswers (s : State) : (s.readKeypad.2).keyAnswers = s.keyAnswers := rfl
@[simp] theorem State.readKeypad_keyQueries (s : State) : (s.readKeypad.2).keyQueries = s.keyQueries := rfl
@[simp] theorem State.readKeypad_trace (s : State) : (s.readKeypad.2).trace = s.trace ++ [.readKeypadLatch s.nextKeypad] := rfl
@[simp] theorem State.readKeypad_result (s : State) : (s.readKeypad.2).result = s.result := rfl
@[simp] theorem State.readKeypad_peek (s : State) (a' : Word) : (s.readKeypad.2).peek a' = s.peek a' := rfl
@[simp] theorem State.readKeypad_readReg (s : State) (m : Nibble) : (s.readKeypad.2).readReg m = s.readReg m := rfl
@[simp] theorem State.readKeypad_pc (s : State) : (s.readKeypad.2).pc = s.pc := rfl
@[simp] theorem State.readKeypad_index (s : State) : (s.readKeypad.2).index = s.index := rfl

/-! ### queryKey -/

@[simp] theorem State.queryKey_r (s : State) : (s.queryKey.2).r = s.r := rfl
@[simp] theorem State.queryKey_d (s : State) : (s.queryKey.2).d = s.d := rfl
@[simp] theorem State.queryKey_df (s : State) : (s.queryKey.2).df = s.df := rfl
@[simp] theorem State.queryKey_q (s : State) : (s.queryKey.2).q = s.q := rfl
@[simp] theorem State.queryKey_ie (s : State) : (s.queryKey.2).ie = s.ie := rfl
@[simp] theorem State.queryKey_p (s : State) : (s.queryKey.2).p = s.p := rfl
@[simp] theorem State.queryKey_x (s : State) : (s.queryKey.2).x = s.x := rfl
@[simp] theorem State.queryKey_t (s : State) : (s.queryKey.2).t = s.t := rfl
@[simp] theorem State.queryKey_cyc (s : State) : (s.queryKey.2).cyc = s.cyc := rfl
@[simp] theorem State.queryKey_ma (s : State) : (s.queryKey.2).ma = s.ma := rfl
@[simp] theorem State.queryKey_mb (s : State) : (s.queryKey.2).mb = s.mb := rfl
@[simp] theorem State.queryKey_mem (s : State) : (s.queryKey.2).mem = s.mem := rfl
@[simp] theorem State.queryKey_cfg (s : State) : (s.queryKey.2).cfg = s.cfg := rfl
@[simp] theorem State.queryKey_keypadAnswers (s : State) : (s.queryKey.2).keypadAnswers = s.keypadAnswers := rfl
@[simp] theorem State.queryKey_keypadQueries (s : State) : (s.queryKey.2).keypadQueries = s.keypadQueries := rfl
@[simp] theorem State.queryKey_keyAnswers (s : State) : (s.queryKey.2).keyAnswers = s.keyAnswers.tail := rfl
@[simp] theorem State.queryKey_keyQueries (s : State) : (s.queryKey.2).keyQueries = s.keyQueries + 1 := rfl
@[simp] theorem State.queryKey_trace (s : State) : (s.queryKey.2).trace = s.trace ++ [.queryKeyPressed s.nextKey] := rfl
@[simp] theorem State.queryKey_result (s : State) : (s.queryKey.2).result = s.result := rfl
@[simp] theorem State.queryKey_peek (s : State) (a' : Word) : (s.queryKey.2).peek a' = s.peek a' := rfl
@[simp] theorem State.queryKey_readReg (s : State) (m : Nibble) : (s.queryKey.2).readReg m = s.readReg m := rfl
@[simp] theorem State.queryKey_pc (s : State) : (s.queryKey.2).pc = s.pc := rfl
@[simp] theorem State.queryKey_index (s : State) : (s.queryKey.2).index = s.index := rfl

/-! ### deliverInterrupt -/

@[simp] theorem State.deliverInterrupt_r (s : State) : (s.deliverInterrupt).r = s.r := rfl
@[simp] theorem State.deliverInterrupt_d (s : State) : (s.deliverInterrupt).d = s.d := rfl
@[simp] theorem State.deliverInterrupt_df (s : State) : (s.deliverInterrupt).df = s.df := rfl
@[simp] theorem State.deliverInterrupt_q (s : State) : (s.deliverInterrupt).q = s.q := rfl
@[simp] theorem State.deliverInterrupt_ie (s : State) : (s.deliverInterrupt).ie = false := rfl
@[simp] theorem State.deliverInterrupt_p (s : State) : (s.deliverInterrupt).p = Config.intP := rfl
@[simp] theorem State.deliverInterrupt_x (s : State) : (s.deliverInterrupt).x = Config.intX := rfl
@[simp] theorem State.deliverInterrupt_t (s : State) : (s.deliverInterrupt).t = packXP s.x s.p := rfl
@[simp] theorem State.deliverInterrupt_cyc (s : State) : (s.deliverInterrupt).cyc = s.cfg.interruptPoint := rfl
@[simp] theorem State.deliverInterrupt_ma (s : State) : (s.deliverInterrupt).ma = s.ma := rfl
@[simp] theorem State.deliverInterrupt_mb (s : State) : (s.deliverInterrupt).mb = s.mb := rfl
@[simp] theorem State.deliverInterrupt_mem (s : State) : (s.deliverInterrupt).mem = s.mem := rfl
@[simp] theorem State.deliverInterrupt_cfg (s : State) : (s.deliverInterrupt).cfg = s.cfg := rfl
@[simp] theorem State.deliverInterrupt_keypadAnswers (s : State) : (s.deliverInterrupt).keypadAnswers = s.keypadAnswers := rfl
@[simp] theorem State.deliverInterrupt_keypadQueries (s : State) : (s.deliverInterrupt).keypadQueries = s.keypadQueries := rfl
@[simp] theorem State.deliverInterrupt_keyAnswers (s : State) : (s.deliverInterrupt).keyAnswers = s.keyAnswers := rfl
@[simp] theorem State.deliverInterrupt_keyQueries (s : State) : (s.deliverInterrupt).keyQueries = s.keyQueries := rfl
@[simp] theorem State.deliverInterrupt_trace (s : State) : (s.deliverInterrupt).trace = s.trace := rfl
@[simp] theorem State.deliverInterrupt_result (s : State) : (s.deliverInterrupt).result = s.result := rfl
@[simp] theorem State.deliverInterrupt_peek (s : State) (a' : Word) : (s.deliverInterrupt).peek a' = s.peek a' := rfl
@[simp] theorem State.deliverInterrupt_readReg (s : State) (m : Nibble) : (s.deliverInterrupt).readReg m = s.readReg m := rfl

/-! ### returnFromInterrupt -/

@[simp] theorem State.returnFromInterrupt_r (s : State) (b : Bool) : (s.returnFromInterrupt b).r = s.r.set s.x.toNat (s.index + 1) s.x.isLt := rfl
@[simp] theorem State.returnFromInterrupt_d (s : State) (b : Bool) : (s.returnFromInterrupt b).d = s.d := rfl
@[simp] theorem State.returnFromInterrupt_df (s : State) (b : Bool) : (s.returnFromInterrupt b).df = s.df := rfl
@[simp] theorem State.returnFromInterrupt_q (s : State) (b : Bool) : (s.returnFromInterrupt b).q = s.q := rfl
@[simp] theorem State.returnFromInterrupt_ie (s : State) (b : Bool) : (s.returnFromInterrupt b).ie = b := rfl
@[simp] theorem State.returnFromInterrupt_p (s : State) (b : Bool) : (s.returnFromInterrupt b).p = unpackP (s.peek s.index) := rfl
@[simp] theorem State.returnFromInterrupt_x (s : State) (b : Bool) : (s.returnFromInterrupt b).x = unpackX (s.peek s.index) := rfl
@[simp] theorem State.returnFromInterrupt_t (s : State) (b : Bool) : (s.returnFromInterrupt b).t = s.t := rfl
@[simp] theorem State.returnFromInterrupt_cyc (s : State) (b : Bool) : (s.returnFromInterrupt b).cyc = s.cyc := rfl
@[simp] theorem State.returnFromInterrupt_ma (s : State) (b : Bool) : (s.returnFromInterrupt b).ma = s.index := rfl
@[simp] theorem State.returnFromInterrupt_mb (s : State) (b : Bool) : (s.returnFromInterrupt b).mb = s.peek s.index := rfl
@[simp] theorem State.returnFromInterrupt_mem (s : State) (b : Bool) : (s.returnFromInterrupt b).mem = s.mem := rfl
@[simp] theorem State.returnFromInterrupt_cfg (s : State) (b : Bool) : (s.returnFromInterrupt b).cfg = s.cfg := rfl
@[simp] theorem State.returnFromInterrupt_keypadAnswers (s : State) (b : Bool) : (s.returnFromInterrupt b).keypadAnswers = s.keypadAnswers := rfl
@[simp] theorem State.returnFromInterrupt_keypadQueries (s : State) (b : Bool) : (s.returnFromInterrupt b).keypadQueries = s.keypadQueries := rfl
@[simp] theorem State.returnFromInterrupt_keyAnswers (s : State) (b : Bool) : (s.returnFromInterrupt b).keyAnswers = s.keyAnswers := rfl
@[simp] theorem State.returnFromInterrupt_keyQueries (s : State) (b : Bool) : (s.returnFromInterrupt b).keyQueries = s.keyQueries := rfl
@[simp] theorem State.returnFromInterrupt_trace (s : State) (b : Bool) : (s.returnFromInterrupt b).trace = s.trace := rfl
@[simp] theorem State.returnFromInterrupt_result (s : State) (b : Bool) : (s.returnFromInterrupt b).result = s.result := rfl
@[simp] theorem State.returnFromInterrupt_peek (s : State) (b : Bool) (a' : Word) : (s.returnFromInterrupt b).peek a' = s.peek a' := rfl

/-! ### advanceCycles -/

@[simp] theorem State.advanceCycles_r (s : State) : (s.advanceCycles).r = s.r := rfl
@[simp] theorem State.advanceCycles_d (s : State) : (s.advanceCycles).d = s.d := rfl
@[simp] theorem State.advanceCycles_df (s : State) : (s.advanceCycles).df = s.df := rfl
@[simp] theorem State.advanceCycles_q (s : State) : (s.advanceCycles).q = s.q := rfl
@[simp] theorem State.advanceCycles_ie (s : State) : (s.advanceCycles).ie = s.ie := rfl
@[simp] theorem State.advanceCycles_p (s : State) : (s.advanceCycles).p = s.p := rfl
@[simp] theorem State.advanceCycles_x (s : State) : (s.advanceCycles).x = s.x := rfl
@[simp] theorem State.advanceCycles_t (s : State) : (s.advanceCycles).t = s.t := rfl
@[simp] theorem State.advanceCycles_cyc (s : State) : (s.advanceCycles).cyc = s.cyc + Config.instrCycles := rfl
@[simp] theorem State.advanceCycles_ma (s : State) : (s.advanceCycles).ma = s.ma := rfl
@[simp] theorem State.advanceCycles_mb (s : State) : (s.advanceCycles).mb = s.mb := rfl
@[simp] theorem State.advanceCycles_mem (s : State) : (s.advanceCycles).mem = s.mem := rfl
@[simp] theorem State.advanceCycles_cfg (s : State) : (s.advanceCycles).cfg = s.cfg := rfl
@[simp] theorem State.advanceCycles_keypadAnswers (s : State) : (s.advanceCycles).keypadAnswers = s.keypadAnswers := rfl
@[simp] theorem State.advanceCycles_keypadQueries (s : State) : (s.advanceCycles).keypadQueries = s.keypadQueries := rfl
@[simp] theorem State.advanceCycles_keyAnswers (s : State) : (s.advanceCycles).keyAnswers = s.keyAnswers := rfl
@[simp] theorem State.advanceCycles_keyQueries (s : State) : (s.advanceCycles).keyQueries = s.keyQueries := rfl
@[simp] theorem State.advanceCycles_trace (s : State) : (s.advanceCycles).trace = s.trace := rfl
@[simp] theorem State.advanceCycles_result (s : State) : (s.advanceCycles).result = s.result := rfl
@[simp] theorem State.advanceCycles_peek (s : State) (a' : Word) : (s.advanceCycles).peek a' = s.peek a' := rfl
@[simp] theorem State.advanceCycles_readReg (s : State) (m : Nibble) : (s.advanceCycles).readReg m = s.readReg m := rfl
@[simp] theorem State.advanceCycles_pc (s : State) : (s.advanceCycles).pc = s.pc := rfl
@[simp] theorem State.advanceCycles_index (s : State) : (s.advanceCycles).index = s.index := rfl

/-! ### completeFrame -/

@[simp] theorem State.completeFrame_r (s : State) : (s.completeFrame).r = s.r := rfl
@[simp] theorem State.completeFrame_d (s : State) : (s.completeFrame).d = s.d := rfl
@[simp] theorem State.completeFrame_df (s : State) : (s.completeFrame).df = s.df := rfl
@[simp] theorem State.completeFrame_q (s : State) : (s.completeFrame).q = s.q := rfl
@[simp] theorem State.completeFrame_ie (s : State) : (s.completeFrame).ie = s.ie := rfl
@[simp] theorem State.completeFrame_p (s : State) : (s.completeFrame).p = s.p := rfl
@[simp] theorem State.completeFrame_x (s : State) : (s.completeFrame).x = s.x := rfl
@[simp] theorem State.completeFrame_t (s : State) : (s.completeFrame).t = s.t := rfl
@[simp] theorem State.completeFrame_cyc (s : State) : (s.completeFrame).cyc = s.cyc - s.cfg.frameCycles := rfl
@[simp] theorem State.completeFrame_ma (s : State) : (s.completeFrame).ma = s.ma := rfl
@[simp] theorem State.completeFrame_mb (s : State) : (s.completeFrame).mb = s.mb := rfl
@[simp] theorem State.completeFrame_mem (s : State) : (s.completeFrame).mem = s.mem := rfl
@[simp] theorem State.completeFrame_cfg (s : State) : (s.completeFrame).cfg = s.cfg := rfl
@[simp] theorem State.completeFrame_keypadAnswers (s : State) : (s.completeFrame).keypadAnswers = s.keypadAnswers := rfl
@[simp] theorem State.completeFrame_keypadQueries (s : State) : (s.completeFrame).keypadQueries = s.keypadQueries := rfl
@[simp] theorem State.completeFrame_keyAnswers (s : State) : (s.completeFrame).keyAnswers = s.keyAnswers := rfl
@[simp] theorem State.completeFrame_keyQueries (s : State) : (s.completeFrame).keyQueries = s.keyQueries := rfl
@[simp] theorem State.completeFrame_result (s : State) : (s.completeFrame).result = Config.frameRate := rfl
@[simp] theorem State.completeFrame_peek (s : State) (a' : Word) : (s.completeFrame).peek a' = s.peek a' := rfl
@[simp] theorem State.completeFrame_readReg (s : State) (m : Nibble) : (s.completeFrame).readReg m = s.readReg m := rfl
@[simp] theorem State.completeFrame_pc (s : State) : (s.completeFrame).pc = s.pc := rfl
@[simp] theorem State.completeFrame_index (s : State) : (s.completeFrame).index = s.index := rfl

/-! ### Registers read after they are written -/

/-- A register reads as the value last written to it; every other one reads as before. -/
theorem State.readReg_writeReg (s : State) (n m : Nibble) (v : Word) :
    (s.writeReg n v).readReg m = if m = n then v else s.readReg m := by
  simp only [State.readReg, State.writeReg, Vector.getElem_set, BitVec.toNat_inj, eq_comm]

@[simp] theorem State.readReg_writeReg_self (s : State) (n : Nibble) (v : Word) :
    (s.writeReg n v).readReg n = v := by simp [State.readReg_writeReg]

theorem State.readReg_writeReg_other (s : State) {n m : Nibble} (v : Word) (h : m ≠ n) :
    (s.writeReg n v).readReg m = s.readReg m := by simp [State.readReg_writeReg, h]

/-- Writing back the value a register holds changes nothing. -/
@[simp] theorem State.writeReg_readReg (s : State) (n : Nibble) : s.writeReg n (s.readReg n) = s := by
  simp [State.writeReg, State.readReg]

/-- A second write to one register replaces the first. -/
@[simp] theorem State.writeReg_writeReg (s : State) (n : Nibble) (v w : Word) :
    (s.writeReg n v).writeReg n w = s.writeReg n w := by simp [State.writeReg]

theorem State.readReg_setPc (s : State) (m : Nibble) (v : Word) :
    (s.setPc v).readReg m = if m = s.p then v else s.readReg m := s.readReg_writeReg s.p m v

@[simp] theorem State.pc_setPc (s : State) (v : Word) : (s.setPc v).pc = v := by
  simp [State.pc, State.readReg_setPc]

theorem State.readReg_incReg (s : State) (n m : Nibble) :
    (s.incReg n).readReg m = if m = n then s.readReg n + 1 else s.readReg m := s.readReg_writeReg n m _

theorem State.readReg_decReg (s : State) (n m : Nibble) :
    (s.decReg n).readReg m = if m = n then s.readReg n - 1 else s.readReg m := s.readReg_writeReg n m _

theorem State.readReg_fetchOperand (s : State) (m : Nibble) (k : Byte) :
    (s.fetchOperand k).readReg m = if m = s.p then s.pc + 1 else s.readReg m :=
  State.readReg_setPc { s with ma := s.pc, mb := k } m _

@[simp] theorem State.pc_fetchOperand (s : State) (k : Byte) : (s.fetchOperand k).pc = s.pc + 1 := by
  simp [State.pc, State.readReg_fetchOperand]

theorem State.readReg_fetchOpcode (s : State) (m : Nibble) :
    s.fetchOpcode.readReg m = if m = s.p then s.pc + 1 else s.readReg m :=
  State.readReg_setPc (s.memRead s.pc).2 m _

@[simp] theorem State.pc_fetchOpcode (s : State) : s.fetchOpcode.pc = s.pc + 1 := by
  simp [State.pc, State.readReg_fetchOpcode]

end Sys2Proof.Machine
end

