-- ==== Sys2Proof/Laws/Memory.lean ====
section
/-! SUPPORT. Memory: what a read gives after a write (on every list, canonical or not), and that every memory
operation keeps the canonical form and the bound of the addresses. -/

namespace Sys2Proof.Machine

/-! ### Reading after erasing, inserting and writing -/

@[simp] theorem Memory.read_nil (a : Nat) : Memory.read [] a = Memory.unlisted := rfl

theorem Memory.read_erase (m : Memory) (a b : Nat) :
    (m.erase a).read b = if b = a then Memory.unlisted else m.read b := by
  induction m with
  | nil => simp [Memory.erase]
  | cons c m ih =>
    by_cases hc : c.1 = a <;> simp only [Memory.erase, hc, if_true, if_false, Memory.read, ih]
    · by_cases hb : b = a
      · simp [hb]
      · simp [hb, Ne.symm hb]
    · by_cases hb : b = a <;> simp [hb, hc]

theorem Memory.read_insert_self (m : Memory) (a : Nat) (v : Byte) (h : ∀ c ∈ m, c.1 ≠ a) :
    (m.insert a v).read a = v := by
  induction m with
  | nil => simp [Memory.insert, Memory.read]
  | cons c m ih =>
    simp only [List.mem_cons, forall_eq_or_imp] at h
    unfold Memory.insert
    split
    · simp [Memory.read]
    · simp [Memory.read, h.1, ih h.2]

theorem Memory.read_insert_other (m : Memory) {a b : Nat} (v : Byte) (h : b ≠ a) :
    (m.insert a v).read b = m.read b := by
  induction m with
  | nil => simp [Memory.insert, Memory.read, h.symm]
  | cons c m ih =>
    unfold Memory.insert
    split
    · simp [Memory.read, h.symm]
    · simp [Memory.read, ih]

theorem Memory.mem_erase {m : Memory} {a : Nat} {c : Host.Cell} : c ∈ m.erase a ↔ c ∈ m ∧ c.1 ≠ a := by
  induction m with
  | nil => simp [Memory.erase]
  | cons d m ih =>
    unfold Memory.erase
    split
    · simp only [ih, List.mem_cons]; aesop
    · simp only [List.mem_cons, ih]; aesop

theorem Memory.mem_insert {m : Memory} {a : Nat} {v : Byte} {c : Host.Cell} :
    c ∈ m.insert a v ↔ c = (a, v) ∨ c ∈ m := by
  induction m with
  | nil => simp [Memory.insert]
  | cons d m ih =>
    unfold Memory.insert
    split
    · simp
    · simp only [List.mem_cons, ih]; tauto

/-- A byte reads as the value last written to it; every other byte reads as before. -/
theorem Memory.read_write (m : Memory) (a b : Nat) (v : Byte) :
    (m.write a v).read b = if b = a then v else m.read b := by
  unfold Memory.write
  by_cases hv : v = Memory.unlisted
  · simp [hv, Memory.read_erase]
  · by_cases hb : b = a
    · subst hb
      simp [hv, Memory.read_insert_self _ _ _ fun c hc => (Memory.mem_erase.mp hc).2]
    · simp [hv, hb, Memory.read_insert_other _ _ hb, Memory.read_erase]

/-! ### The canonical form -/

theorem Memory.wf_nil : Memory.wf [] := by simp [Memory.wf]

theorem Memory.erase_sublist (m : Memory) (a : Nat) : (m.erase a).Sublist m := by
  induction m with
  | nil => exact List.Sublist.slnil
  | cons c m ih =>
    unfold Memory.erase
    split
    · exact ih.cons c
    · exact ih.cons_cons c

theorem Memory.erase_wf {m : Memory} (h : m.wf) (a : Nat) : (m.erase a).wf :=
  ⟨h.1.sublist (m.erase_sublist a), fun c hc => h.2 c (Memory.mem_erase.mp hc).1⟩

theorem Memory.insert_wf {m : Memory} (h : m.wf) {a : Nat} {v : Byte} (hv : v ≠ Memory.unlisted)
    (ha : ∀ c ∈ m, c.1 ≠ a) : (m.insert a v).wf := by
  refine ⟨?_, fun c hc => ?_⟩
  · have hs := h.1
    clear h
    induction m with
    | nil => simp [Memory.insert]
    | cons c m ih =>
      simp only [List.mem_cons, forall_eq_or_imp] at ha
      rw [List.pairwise_cons] at hs
      unfold Memory.insert
      split
      next hlt =>
        rw [List.pairwise_cons, List.pairwise_cons]
        refine ⟨fun d hd => ?_, hs⟩
        rcases List.mem_cons.mp hd with rfl | hd
        · exact hlt
        · exact lt_trans hlt (hs.1 d hd)
      next hge =>
        rw [List.pairwise_cons]
        refine ⟨fun d hd => ?_, ih ha.2 hs.2⟩
        rcases Memory.mem_insert.mp hd with rfl | hd
        · have := ha.1
          simp only; omega
        · exact hs.1 d hd
  · rcases Memory.mem_insert.mp hc with rfl | hc
    · exact hv
    · exact h.2 c hc

/-- A write keeps the canonical form. -/
theorem Memory.write_wf {m : Memory} (h : m.wf) (a : Nat) (v : Byte) : (m.write a v).wf := by
  unfold Memory.write
  split
  · exact Memory.erase_wf h a
  next hv => exact Memory.insert_wf (Memory.erase_wf h a) hv fun c hc => (Memory.mem_erase.mp hc).2

/-- A write below `size` lists no address at or above `size`. -/
theorem Memory.write_bounded {m : Memory} {size : Nat} (h : ∀ c ∈ m, c.1 < size) {a : Nat} (ha : a < size)
    (v : Byte) : ∀ c ∈ m.write a v, c.1 < size := by
  intro c hc
  unfold Memory.write at hc
  split at hc
  · exact h c (Memory.mem_erase.mp hc).1
  · rcases Memory.mem_insert.mp hc with rfl | hc
    · exact ha
    · exact h c (Memory.mem_erase.mp hc).1

/-- Loading an image keeps the canonical form. -/
theorem Memory.load_wf {size : Nat} (bytes : List Byte) {m : Memory} (h : m.wf) (a : Nat) :
    (Memory.load size m a bytes).wf := by
  induction bytes generalizing m a with
  | nil => exact h
  | cons b bytes ih =>
    unfold Memory.load
    split
    · exact ih (Memory.write_wf h a b) _
    · exact ih h _

/-- Loading an image lists no address at or above `size`. -/
theorem Memory.load_bounded {size : Nat} (bytes : List Byte) {m : Memory} (h : ∀ c ∈ m, c.1 < size) (a : Nat) :
    ∀ c ∈ Memory.load size m a bytes, c.1 < size := by
  induction bytes generalizing m a with
  | nil => exact h
  | cons b bytes ih =>
    unfold Memory.load
    split
    next ha => exact ih (Memory.write_bounded h ha b) _
    · exact ih h _

/-! ### The same for the state's memory -/

/-- `poke` and `memWrite` change memory in the same way. -/
theorem State.memWrite_mem (s : State) (a : Word) (v : Byte) : (s.memWrite a v).mem = (s.poke a v).mem := rfl

@[simp] theorem State.memWrite_peek (s : State) (a : Word) (v : Byte) (b : Word) :
    (s.memWrite a v).peek b = (s.poke a v).peek b := rfl

/-- What `poke` leaves every byte as. -/
theorem State.poke_peek (s : State) (a : Word) (v : Byte) (b : Word) :
    (s.poke a v).peek b = if b = a ∧ s.inBounds a = true then v else s.peek b := by
  by_cases ha : a.toNat < s.cfg.memSize
  · by_cases hb : b = a
    · subst hb; simp [State.poke, State.peek, State.inBounds, ha, Memory.read_write]
    · have : b.toNat ≠ a.toNat := fun h => hb (BitVec.eq_of_toNat_eq h)
      simp [State.poke, State.peek, State.inBounds, ha, hb, this, Memory.read_write]
  · simp [State.poke, State.inBounds, ha]

/-- `poke` keeps the canonical form. -/
theorem State.poke_wf {s : State} (h : s.mem.wf) (a : Word) (v : Byte) : (s.poke a v).mem.wf := by
  rw [State.poke]
  split
  · exact Memory.write_wf h _ _
  · exact h

/-- `poke` lists no address out of bounds. -/
theorem State.poke_bounded {s : State} (h : ∀ c ∈ s.mem, c.1 < s.cfg.memSize) (a : Word) (v : Byte) :
    ∀ c ∈ (s.poke a v).mem, c.1 < s.cfg.memSize := by
  unfold State.poke
  split
  next ha => exact Memory.write_bounded h (by simpa [State.inBounds] using ha) v
  · exact h

/-- `MemWrite` keeps the canonical form. -/
theorem State.memWrite_wf {s : State} (h : s.mem.wf) (a : Word) (v : Byte) : (s.memWrite a v).mem.wf := by
  rw [State.memWrite_mem]; exact State.poke_wf h a v

/-- `MemWrite` lists no address out of bounds. -/
theorem State.memWrite_bounded {s : State} (h : ∀ c ∈ s.mem, c.1 < s.cfg.memSize) (a : Word) (v : Byte) :
    ∀ c ∈ (s.memWrite a v).mem, c.1 < s.cfg.memSize := by
  rw [State.memWrite_mem]; exact State.poke_bounded h a v

end Sys2Proof.Machine
end

