-- ==== Sys2Proof/Laws/Ops.lean ====
section
/-! SUPPORT. One lemma per shared operation that says once what it can do: the operations on halves and nibbles,
the adder and the shifter in numbers, the shared meanings ("if it answers next s', then ..."), and the phases
after an instruction. -/

namespace Sys2Proof.Machine

/-! ### Halves and nibbles in numbers -/

theorem lowByte_toNat (v : Word) : (lowByte v).toNat = v.toNat % 256 := by simp [lowByte]

theorem highByte_toNat (v : Word) : (highByte v).toNat = v.toNat / 256 := by
  have := v.isLt
  simp [highByte, Nat.shiftRight_eq_div_pow]; omega

theorem append_bytes_toNat (a b : Byte) : (a ++ b : Word).toNat = a.toNat * 256 + b.toNat := by
  rw [BitVec.toNat_append, ← Nat.shiftLeft_add_eq_or_of_lt b.isLt, Nat.shiftLeft_eq]

theorem withLowByte_toNat (v : Word) (b : Byte) : (withLowByte v b).toNat = v.toNat / 256 * 256 + b.toNat := by
  rw [withLowByte, append_bytes_toNat, highByte_toNat]

theorem withHighByte_toNat (v : Word) (b : Byte) : (withHighByte v b).toNat = b.toNat * 256 + v.toNat % 256 := by
  rw [withHighByte, append_bytes_toNat, lowByte_toNat]

theorem packXP_toNat (x p : Nibble) : (packXP x p).toNat = x.toNat * 16 + p.toNat := by
  rw [packXP, BitVec.toNat_append, ← Nat.shiftLeft_add_eq_or_of_lt p.isLt, Nat.shiftLeft_eq]

theorem unpackX_toNat (b : Byte) : (unpackX b).toNat = b.toNat / 16 := by
  have := b.isLt
  simp [unpackX, Nat.shiftRight_eq_div_pow]; omega

theorem unpackP_toNat (b : Byte) : (unpackP b).toNat = b.toNat % 16 := by simp [unpackP]

/-- A pair unpacked is the pair that was packed. -/
@[simp] theorem unpackX_packXP (x p : Nibble) : unpackX (packXP x p) = x := by
  apply BitVec.eq_of_toNat_eq
  have := p.isLt
  rw [unpackX_toNat, packXP_toNat]; omega

@[simp] theorem unpackP_packXP (x p : Nibble) : unpackP (packXP x p) = p := by
  apply BitVec.eq_of_toNat_eq
  have := p.isLt
  rw [unpackP_toNat, packXP_toNat]; omega

@[simp] theorem packXP_unpack (b : Byte) : packXP (unpackX b) (unpackP b) = b := by
  apply BitVec.eq_of_toNat_eq
  rw [packXP_toNat, unpackX_toNat, unpackP_toNat]; omega

/-! ### The adder and the shifter in numbers -/

theorem sumAndCarry_fst (a b : Byte) (c : Bool) :
    (sumAndCarry a b c).1.toNat = (a.toNat + b.toNat + c.toNat) % 256 := by
  simp [sumAndCarry, add9]

theorem sumAndCarry_snd (a b : Byte) (c : Bool) :
    (sumAndCarry a b c).2 = decide (256 ≤ a.toNat + b.toNat + c.toNat) := rfl

theorem not8_toNat (y : Byte) : (not8 y).toNat = 255 - y.toNat := by simp [not8]

theorem shr_fst (d : Byte) (cin : Bool) : (shr d cin).1.toNat = cin.toNat * 128 + d.toNat / 2 := by
  revert d cin; decide

theorem shr_snd (d : Byte) (cin : Bool) : (shr d cin).2 = decide (d.toNat % 2 = 1) := by
  revert d cin; decide

theorem shl_fst (d : Byte) (cin : Bool) : (shl d cin).1.toNat = d.toNat * 2 % 256 + cin.toNat := by
  revert d cin; decide

theorem shl_snd (d : Byte) (cin : Bool) : (shl d cin).2 = decide (128 ≤ d.toNat) := by
  revert d cin; decide

/-! ### The shared meanings -/

theorem loadN_next {n : Nibble} {s s' : State} (h : loadN n s = .next s') :
    s' = { s with d := s.peek (s.readReg n), ma := s.readReg n, mb := s.peek (s.readReg n) } := by
  cases h; rfl

theorem loadAdvance_next {n : Nibble} {s s' : State} (h : loadAdvance n s = .next s') :
    s' = { s with d := s.peek (s.readReg n), ma := s.readReg n, mb := s.peek (s.readReg n) }.incReg n := by
  cases h; rfl

theorem storeN_next {n : Nibble} {s s' : State} (h : storeN n s = .next s') :
    s' = { s with mem := (s.poke (s.readReg n) s.d).mem, ma := s.readReg n, mb := s.d } := by
  cases h; rfl

theorem incrementN_next {n : Nibble} {s s' : State} (h : incrementN n s = .next s') : s' = s.incReg n := by
  cases h; rfl

theorem decrementN_next {n : Nibble} {s s' : State} (h : decrementN n s = .next s') : s' = s.decReg n := by
  cases h; rfl

theorem getLow_next {n : Nibble} {s s' : State} (h : getLow n s = .next s') :
    s' = { s with d := lowByte (s.readReg n) } := by cases h; rfl

theorem getHigh_next {n : Nibble} {s s' : State} (h : getHigh n s = .next s') :
    s' = { s with d := highByte (s.readReg n) } := by cases h; rfl

theorem putLow_next {n : Nibble} {s s' : State} (h : putLow n s = .next s') :
    s' = s.writeReg n (withLowByte (s.readReg n) s.d) := by cases h; rfl

theorem putHigh_next {n : Nibble} {s s' : State} (h : putHigh n s = .next s') :
    s' = s.writeReg n (withHighByte (s.readReg n) s.d) := by cases h; rfl

theorem logic_next {o : Byte × State} {f : Byte → Byte → Byte} {s' : State} (h : logic o f = .next s') :
    s' = { o.2 with d := f o.1 o.2.d } := by cases h; rfl

theorem shift_next {f : Byte → Bool → Byte × Bool} {c : Bool} {s s' : State} (h : shift f c s = .next s') :
    s' = { s with d := (f s.d c).1, df := (f s.d c).2 } := by cases h; rfl

theorem arithmetic_next {o : Byte × State} {f : Byte → Byte → Bool → Byte × Bool} {s' : State}
    (h : arithmetic o f = .next s') :
    s' = { o.2 with d := (f o.1 o.2.d o.2.df).1, df := (f o.1 o.2.d o.2.df).2 } := by cases h; rfl

theorem shortBranch_next {taken : Bool} {a : Byte} {s s' : State} (h : shortBranch taken a s = .next s') :
    s' = { s with ma := s.pc, mb := a }.setPc (if taken then withLowByte s.pc a else s.pc + 1) := by
  cases h; rfl

/-- A branch on one of the three wired or unwired flags samples no device; one on flag 4 makes one query. -/
theorem flagBranch_next {f : ExtFlag} {level : Bool} {a : Byte} {s s' : State}
    (h : flagBranch f level a s = .next s') : shortBranch ((s.ef f).1 == level) a (s.ef f).2 = .next s' := h

theorem longBranch_next {taken : Bool} {target : Word} {s s' : State}
    (h : longBranch taken target s = .next s') :
    s' = { s with ma := s.pc + 1, mb := lowByte target }.setPc (if taken then target else s.pc + 2) := by
  cases h
  have hp : s.pc + 1 + 1 = s.pc + 2 := by rw [BitVec.add_assoc]; rfl
  have h1 : (s.fetchOperand (highByte target)).fetchOperand (lowByte target) =
      { s with ma := s.pc + 1, mb := lowByte target }.setPc (s.pc + 2) := by
    simp only [State.fetchOperand, State.setPc, State.writeReg, State.pc, State.readReg,
      Vector.getElem_set_self, Vector.set_set]
    congr 2
  cases taken
  · exact h1
  · simp only [if_true, h1]
    simp [State.setPc, State.writeReg]

theorem longSkip_next {taken : Bool} {s s' : State} (h : longSkip taken s = .next s') :
    s' = if taken then s.setPc (s.pc + 2) else s := by cases h; rfl

theorem setP_next {n : Nibble} {s s' : State} (h : setP n s = .next s') : s' = { s with p := n } := by
  cases h; rfl

theorem setX_next {n : Nibble} {s s' : State} (h : setX n s = .next s') : s' = { s with x := n } := by
  cases h; rfl

theorem output_next {n : PortNumber} {s s' : State} (h : output n s = .next s') :
    s' = ({ s with ma := s.index, mb := s.peek s.index }.portOut n (s.peek s.index)).incReg s.x := by
  cases h; rfl

theorem input_next {n : PortNumber} {s s' : State} (h : input n s = .next s') :
    s' = { (s.portIn n).2.memWrite s.index (s.portIn n).1 with d := (s.portIn n).1 } := by
  cases h; rfl

/-- What `PortOut` can do: one call of port 1 or port 4, or nothing. -/
theorem State.portOut_eq (s : State) (n : PortNumber) (v : Byte) :
    s.portOut n v =
      { s with trace := s.trace ++ (if n = 1 then [.setScreenOff] else if n = 4 then [.setDigitDisplay v] else []) } := by
  unfold State.portOut
  split_ifs <;> simp [State.call]

/-- What `PortIn` answers. -/
theorem State.portIn_fst (s : State) (n : PortNumber) :
    (s.portIn n).1 = if n = 4 then s.nextKeypad else s.cfg.floatBus := by
  unfold State.portIn
  split_ifs with h1 h4 <;> simp_all [State.readKeypad]

/-! ### The phases after an instruction -/

/-- Phase 4: the interrupt is delivered, or nothing happens. -/
theorem State.interruptCheck_cases (s : State) :
    (s.cfg.interruptPoint ≤ s.cyc ∧ s.ie = true ∧ s.interruptCheck = s.deliverInterrupt) ∨
      (¬(s.cfg.interruptPoint ≤ s.cyc ∧ s.ie = true) ∧ s.interruptCheck = s) := by
  by_cases h : s.cfg.interruptPoint ≤ s.cyc ∧ s.ie = true
  · exact .inl ⟨h.1, h.2, by simp [State.interruptCheck, State.interruptTaken, h.1, h.2]⟩
  · exact .inr ⟨h, by simp only [State.interruptCheck, State.interruptTaken]; simp_all⟩

/-- Phase 5: the frame is completed, or the result is 0. -/
theorem State.frameCheck_cases (s : State) :
    (s.cfg.frameCycles ≤ s.cyc ∧ s.frameCheck = s.completeFrame) ∨
      (s.cyc < s.cfg.frameCycles ∧ s.frameCheck = { s with result := 0 }) := by
  by_cases h : s.cfg.frameCycles ≤ s.cyc
  · exact .inl ⟨h, by simp [State.frameCheck, h]⟩
  · exact .inr ⟨by omega, by simp [State.frameCheck, h]⟩

/-- What a step can do: the instruction answers a next state, and the phases after it run. -/
theorem step_next {s s' : State} (h : step s = .next s') :
    ∃ u, exec s.instruction s.fetchOpcode = .next u ∧ s' = u.afterInstruction := by
  unfold step at h
  split at h
  next u hu => exact ⟨u, hu, by simpa using h.symm⟩
  · cases h
  · cases h

/-- The invariant asks only for parameters, counter and memory. -/
theorem State.Inv.of_same {s s' : State} (h : s.Inv) (hc : s'.cfg = s.cfg) (hn : s'.cyc = s.cyc)
    (hm : s'.mem = s.mem) : s'.Inv := by
  obtain ⟨h1, h2, h3, h4⟩ := h
  exact ⟨hc ▸ h1, hc ▸ hn ▸ h2, hm ▸ h3, by rw [hm, hc]; exact h4⟩

/-- `MemWrite` keeps the invariant. -/
theorem State.Inv.memWrite {s : State} (h : s.Inv) (a : Word) (v : Byte) : (s.memWrite a v).Inv := by
  obtain ⟨h1, h2, h3, h4⟩ := h
  exact ⟨by simpa using h1, by simpa using h2, s.memWrite_wf h3 a v, by simpa using s.memWrite_bounded h4 a v⟩

end Sys2Proof.Machine
end

