-- ==== Sys2Proof/Laws/Families.lean ====
section
/-! SUPPORT. The families whose opcode carries a register or port number: what `exec` and `encode` do with the
member of number n, so that a proof about a family splits its sixteen (or eight) cases once. -/

namespace Sys2Proof.Machine

/-- A property of the sixteen nibbles is proved on the sixteen literals. -/
theorem forall_nibble {P : Nibble → Prop} (h : ∀ k : Fin 16, P (BitVec.ofFin k)) (n : Nibble) : P n := h n.toFin

/-- A property of the eight port numbers is proved on the eight literals. -/
theorem forall_port {P : PortNumber → Prop} (h : ∀ k : Fin 8, P (BitVec.ofFin k)) (n : PortNumber) : P n :=
  h n.toFin

theorem exec_incOf (n : Nibble) (s : State) : exec (Instr.incOf n) s = incrementN n s := by
  revert n; exact forall_nibble fun k => by fin_cases k <;> rfl

theorem encode_incOf (n : Nibble) : encode (Instr.incOf n) = [0x1#4 ++ n] := by
  revert n; decide

theorem exec_decOf (n : Nibble) (s : State) : exec (Instr.decOf n) s = decrementN n s := by
  revert n; exact forall_nibble fun k => by fin_cases k <;> rfl

theorem encode_decOf (n : Nibble) : encode (Instr.decOf n) = [0x2#4 ++ n] := by
  revert n; decide

theorem exec_ldaOf (n : Nibble) (s : State) : exec (Instr.ldaOf n) s = loadAdvance n s := by
  revert n; exact forall_nibble fun k => by fin_cases k <;> rfl

theorem encode_ldaOf (n : Nibble) : encode (Instr.ldaOf n) = [0x4#4 ++ n] := by
  revert n; decide

theorem exec_strOf (n : Nibble) (s : State) : exec (Instr.strOf n) s = storeN n s := by
  revert n; exact forall_nibble fun k => by fin_cases k <;> rfl

theorem encode_strOf (n : Nibble) : encode (Instr.strOf n) = [0x5#4 ++ n] := by
  revert n; decide

theorem exec_gloOf (n : Nibble) (s : State) : exec (Instr.gloOf n) s = getLow n s := by
  revert n; exact forall_nibble fun k => by fin_cases k <;> rfl

theorem encode_gloOf (n : Nibble) : encode (Instr.gloOf n) = [0x8#4 ++ n] := by
  revert n; decide

theorem exec_ghiOf (n : Nibble) (s : State) : exec (Instr.ghiOf n) s = getHigh n s := by
  revert n; exact forall_nibble fun k => by fin_cases k <;> rfl

theorem encode_ghiOf (n : Nibble) : encode (Instr.ghiOf n) = [0x9#4 ++ n] := by
  revert n; decide

theorem exec_ploOf (n : Nibble) (s : State) : exec (Instr.ploOf n) s = putLow n s := by
  revert n; exact forall_nibble fun k => by fin_cases k <;> rfl

theorem encode_ploOf (n : Nibble) : encode (Instr.ploOf n) = [0xA#4 ++ n] := by
  revert n; decide

theorem exec_phiOf (n : Nibble) (s : State) : exec (Instr.phiOf n) s = putHigh n s := by
  revert n; exact forall_nibble fun k => by fin_cases k <;> rfl

theorem encode_phiOf (n : Nibble) : encode (Instr.phiOf n) = [0xB#4 ++ n] := by
  revert n; decide

theorem exec_sepOf (n : Nibble) (s : State) : exec (Instr.sepOf n) s = setP n s := by
  revert n; exact forall_nibble fun k => by fin_cases k <;> rfl

theorem encode_sepOf (n : Nibble) : encode (Instr.sepOf n) = [0xD#4 ++ n] := by
  revert n; decide

theorem exec_sexOf (n : Nibble) (s : State) : exec (Instr.sexOf n) s = setX n s := by
  revert n; exact forall_nibble fun k => by fin_cases k <;> rfl

theorem encode_sexOf (n : Nibble) : encode (Instr.sexOf n) = [0xE#4 ++ n] := by
  revert n; decide

theorem exec_ldnOf (n : Nibble) (s : State) (h : n ≠ 0) : exec (Instr.ldnOf n) s = loadN n s := by
  revert n; exact forall_nibble fun k h => by fin_cases k <;> first | rfl | exact absurd rfl h

theorem encode_ldnOf (n : Nibble) : encode (Instr.ldnOf n) = [0x0#4 ++ n] := by
  revert n; decide

theorem exec_outOf (n : PortNumber) (s : State) (h : n ≠ 0) : exec (Instr.outOf n) s = output n s := by
  revert n; exact forall_port fun k h => by fin_cases k <;> first | rfl | exact absurd rfl h

theorem encode_outOf (n : PortNumber) : encode (Instr.outOf n) = [0b01100#5 ++ n] := by
  revert n; decide

theorem exec_inpOf (n : PortNumber) (s : State) (h : n ≠ 0) : exec (Instr.inpOf n) s = input n s := by
  revert n; exact forall_port fun k h => by fin_cases k <;> first | rfl | exact absurd rfl h

theorem encode_inpOf (n : PortNumber) : encode (Instr.inpOf n) = [0b01101#5 ++ n] := by
  revert n; decide

end Sys2Proof.Machine
end

