-- ==== Sys2Proof/Laws/PerInstr.lean ====
section
/-! SUPPORT. Per-instruction laws about the instruction as syntax: the encoder writes as many bytes as R94
gives the opcode it writes, one lemma per constructor. -/

/-- The bytes `encode` writes are the bytes of exactly one instruction (30_encoding.md R94). -/
def Sys2Proof.Laws.EncodingLength.Statement (i : Sys2Proof.Instr) : Prop :=
  Sys2Proof.wellFormedBytes (Sys2Proof.encode i) = true

namespace Sys2Proof.Laws.EncodingLength

theorem idl : Statement (.idl) := rfl
theorem ldn1 : Statement (.ldn1) := rfl
theorem ldn2 : Statement (.ldn2) := rfl
theorem ldn3 : Statement (.ldn3) := rfl
theorem ldn4 : Statement (.ldn4) := rfl
theorem ldn5 : Statement (.ldn5) := rfl
theorem ldn6 : Statement (.ldn6) := rfl
theorem ldn7 : Statement (.ldn7) := rfl
theorem ldn8 : Statement (.ldn8) := rfl
theorem ldn9 : Statement (.ldn9) := rfl
theorem ldn10 : Statement (.ldn10) := rfl
theorem ldn11 : Statement (.ldn11) := rfl
theorem ldn12 : Statement (.ldn12) := rfl
theorem ldn13 : Statement (.ldn13) := rfl
theorem ldn14 : Statement (.ldn14) := rfl
theorem ldn15 : Statement (.ldn15) := rfl
theorem inc0 : Statement (.inc0) := rfl
theorem inc1 : Statement (.inc1) := rfl
theorem inc2 : Statement (.inc2) := rfl
theorem inc3 : Statement (.inc3) := rfl
theorem inc4 : Statement (.inc4) := rfl
theorem inc5 : Statement (.inc5) := rfl
theorem inc6 : Statement (.inc6) := rfl
theorem inc7 : Statement (.inc7) := rfl
theorem inc8 : Statement (.inc8) := rfl
theorem inc9 : Statement (.inc9) := rfl
theorem inc10 : Statement (.inc10) := rfl
theorem inc11 : Statement (.inc11) := rfl
theorem inc12 : Statement (.inc12) := rfl
theorem inc13 : Statement (.inc13) := rfl
theorem inc14 : Statement (.inc14) := rfl
theorem inc15 : Statement (.inc15) := rfl
theorem dec0 : Statement (.dec0) := rfl
theorem dec1 : Statement (.dec1) := rfl
theorem dec2 : Statement (.dec2) := rfl
theorem dec3 : Statement (.dec3) := rfl
theorem dec4 : Statement (.dec4) := rfl
theorem dec5 : Statement (.dec5) := rfl
theorem dec6 : Statement (.dec6) := rfl
theorem dec7 : Statement (.dec7) := rfl
theorem dec8 : Statement (.dec8) := rfl
theorem dec9 : Statement (.dec9) := rfl
theorem dec10 : Statement (.dec10) := rfl
theorem dec11 : Statement (.dec11) := rfl
theorem dec12 : Statement (.dec12) := rfl
theorem dec13 : Statement (.dec13) := rfl
theorem dec14 : Statement (.dec14) := rfl
theorem dec15 : Statement (.dec15) := rfl
theorem br (a : Byte) : Statement (.br a) := rfl
theorem bq (a : Byte) : Statement (.bq a) := rfl
theorem bz (a : Byte) : Statement (.bz a) := rfl
theorem bdf (a : Byte) : Statement (.bdf a) := rfl
theorem b1 (a : Byte) : Statement (.b1 a) := rfl
theorem b2 (a : Byte) : Statement (.b2 a) := rfl
theorem b3 (a : Byte) : Statement (.b3 a) := rfl
theorem b4 (a : Byte) : Statement (.b4 a) := rfl
theorem skp (a : Byte) : Statement (.skp a) := rfl
theorem bnq (a : Byte) : Statement (.bnq a) := rfl
theorem bnz (a : Byte) : Statement (.bnz a) := rfl
theorem bnf (a : Byte) : Statement (.bnf a) := rfl
theorem bn1 (a : Byte) : Statement (.bn1 a) := rfl
theorem bn2 (a : Byte) : Statement (.bn2 a) := rfl
theorem bn3 (a : Byte) : Statement (.bn3 a) := rfl
theorem bn4 (a : Byte) : Statement (.bn4 a) := rfl
theorem lda0 : Statement (.lda0) := rfl
theorem lda1 : Statement (.lda1) := rfl
theorem lda2 : Statement (.lda2) := rfl
theorem lda3 : Statement (.lda3) := rfl
theorem lda4 : Statement (.lda4) := rfl
theorem lda5 : Statement (.lda5) := rfl
theorem lda6 : Statement (.lda6) := rfl
theorem lda7 : Statement (.lda7) := rfl
theorem lda8 : Statement (.lda8) := rfl
theorem lda9 : Statement (.lda9) := rfl
theorem lda10 : Statement (.lda10) := rfl
theorem lda11 : Statement (.lda11) := rfl
theorem lda12 : Statement (.lda12) := rfl
theorem lda13 : Statement (.lda13) := rfl
theorem lda14 : Statement (.lda14) := rfl
theorem lda15 : Statement (.lda15) := rfl
theorem str0 : Statement (.str0) := rfl
theorem str1 : Statement (.str1) := rfl
theorem str2 : Statement (.str2) := rfl
theorem str3 : Statement (.str3) := rfl
theorem str4 : Statement (.str4) := rfl
theorem str5 : Statement (.str5) := rfl
theorem str6 : Statement (.str6) := rfl
theorem str7 : Statement (.str7) := rfl
theorem str8 : Statement (.str8) := rfl
theorem str9 : Statement (.str9) := rfl
theorem str10 : Statement (.str10) := rfl
theorem str11 : Statement (.str11) := rfl
theorem str12 : Statement (.str12) := rfl
theorem str13 : Statement (.str13) := rfl
theorem str14 : Statement (.str14) := rfl
theorem str15 : Statement (.str15) := rfl
theorem irx : Statement (.irx) := rfl
theorem out1 : Statement (.out1) := rfl
theorem out2 : Statement (.out2) := rfl
theorem out3 : Statement (.out3) := rfl
theorem out4 : Statement (.out4) := rfl
theorem out5 : Statement (.out5) := rfl
theorem out6 : Statement (.out6) := rfl
theorem out7 : Statement (.out7) := rfl
theorem ill68 : Statement (.ill68) := rfl
theorem inp1 : Statement (.inp1) := rfl
theorem inp2 : Statement (.inp2) := rfl
theorem inp3 : Statement (.inp3) := rfl
theorem inp4 : Statement (.inp4) := rfl
theorem inp5 : Statement (.inp5) := rfl
theorem inp6 : Statement (.inp6) := rfl
theorem inp7 : Statement (.inp7) := rfl
theorem ret : Statement (.ret) := rfl
theorem dis : Statement (.dis) := rfl
theorem ldxa : Statement (.ldxa) := rfl
theorem stxd : Statement (.stxd) := rfl
theorem adc : Statement (.adc) := rfl
theorem sdb : Statement (.sdb) := rfl
theorem shrc : Statement (.shrc) := rfl
theorem smb : Statement (.smb) := rfl
theorem sav : Statement (.sav) := rfl
theorem mark : Statement (.mark) := rfl
theorem req : Statement (.req) := rfl
theorem seq : Statement (.seq) := rfl
theorem adci (k : Byte) : Statement (.adci k) := rfl
theorem sdbi (k : Byte) : Statement (.sdbi k) := rfl
theorem shlc : Statement (.shlc) := rfl
theorem smbi (k : Byte) : Statement (.smbi k) := rfl
theorem glo0 : Statement (.glo0) := rfl
theorem glo1 : Statement (.glo1) := rfl
theorem glo2 : Statement (.glo2) := rfl
theorem glo3 : Statement (.glo3) := rfl
theorem glo4 : Statement (.glo4) := rfl
theorem glo5 : Statement (.glo5) := rfl
theorem glo6 : Statement (.glo6) := rfl
theorem glo7 : Statement (.glo7) := rfl
theorem glo8 : Statement (.glo8) := rfl
theorem glo9 : Statement (.glo9) := rfl
theorem glo10 : Statement (.glo10) := rfl
theorem glo11 : Statement (.glo11) := rfl
theorem glo12 : Statement (.glo12) := rfl
theorem glo13 : Statement (.glo13) := rfl
theorem glo14 : Statement (.glo14) := rfl
theorem glo15 : Statement (.glo15) := rfl
theorem ghi0 : Statement (.ghi0) := rfl
theorem ghi1 : Statement (.ghi1) := rfl
theorem ghi2 : Statement (.ghi2) := rfl
theorem ghi3 : Statement (.ghi3) := rfl
theorem ghi4 : Statement (.ghi4) := rfl
theorem ghi5 : Statement (.ghi5) := rfl
theorem ghi6 : Statement (.ghi6) := rfl
theorem ghi7 : Statement (.ghi7) := rfl
theorem ghi8 : Statement (.ghi8) := rfl
theorem ghi9 : Statement (.ghi9) := rfl
theorem ghi10 : Statement (.ghi10) := rfl
theorem ghi11 : Statement (.ghi11) := rfl
theorem ghi12 : Statement (.ghi12) := rfl
theorem ghi13 : Statement (.ghi13) := rfl
theorem ghi14 : Statement (.ghi14) := rfl
theorem ghi15 : Statement (.ghi15) := rfl
theorem plo0 : Statement (.plo0) := rfl
theorem plo1 : Statement (.plo1) := rfl
theorem plo2 : Statement (.plo2) := rfl
theorem plo3 : Statement (.plo3) := rfl
theorem plo4 : Statement (.plo4) := rfl
theorem plo5 : Statement (.plo5) := rfl
theorem plo6 : Statement (.plo6) := rfl
theorem plo7 : Statement (.plo7) := rfl
theorem plo8 : Statement (.plo8) := rfl
theorem plo9 : Statement (.plo9) := rfl
theorem plo10 : Statement (.plo10) := rfl
theorem plo11 : Statement (.plo11) := rfl
theorem plo12 : Statement (.plo12) := rfl
theorem plo13 : Statement (.plo13) := rfl
theorem plo14 : Statement (.plo14) := rfl
theorem plo15 : Statement (.plo15) := rfl
theorem phi0 : Statement (.phi0) := rfl
theorem phi1 : Statement (.phi1) := rfl
theorem phi2 : Statement (.phi2) := rfl
theorem phi3 : Statement (.phi3) := rfl
theorem phi4 : Statement (.phi4) := rfl
theorem phi5 : Statement (.phi5) := rfl
theorem phi6 : Statement (.phi6) := rfl
theorem phi7 : Statement (.phi7) := rfl
theorem phi8 : Statement (.phi8) := rfl
theorem phi9 : Statement (.phi9) := rfl
theorem phi10 : Statement (.phi10) := rfl
theorem phi11 : Statement (.phi11) := rfl
theorem phi12 : Statement (.phi12) := rfl
theorem phi13 : Statement (.phi13) := rfl
theorem phi14 : Statement (.phi14) := rfl
theorem phi15 : Statement (.phi15) := rfl
theorem lbr (target : Word) : Statement (.lbr target) := rfl
theorem lbq (target : Word) : Statement (.lbq target) := rfl
theorem lbz (target : Word) : Statement (.lbz target) := rfl
theorem lbdf (target : Word) : Statement (.lbdf target) := rfl
theorem nop : Statement (.nop) := rfl
theorem lsnq : Statement (.lsnq) := rfl
theorem lsnz : Statement (.lsnz) := rfl
theorem lsnf : Statement (.lsnf) := rfl
theorem lskp : Statement (.lskp) := rfl
theorem lbnq (target : Word) : Statement (.lbnq target) := rfl
theorem lbnz (target : Word) : Statement (.lbnz target) := rfl
theorem lbnf (target : Word) : Statement (.lbnf target) := rfl
theorem lsie : Statement (.lsie) := rfl
theorem lsq : Statement (.lsq) := rfl
theorem lsz : Statement (.lsz) := rfl
theorem lsdf : Statement (.lsdf) := rfl
theorem sep0 : Statement (.sep0) := rfl
theorem sep1 : Statement (.sep1) := rfl
theorem sep2 : Statement (.sep2) := rfl
theorem sep3 : Statement (.sep3) := rfl
theorem sep4 : Statement (.sep4) := rfl
theorem sep5 : Statement (.sep5) := rfl
theorem sep6 : Statement (.sep6) := rfl
theorem sep7 : Statement (.sep7) := rfl
theorem sep8 : Statement (.sep8) := rfl
theorem sep9 : Statement (.sep9) := rfl
theorem sep10 : Statement (.sep10) := rfl
theorem sep11 : Statement (.sep11) := rfl
theorem sep12 : Statement (.sep12) := rfl
theorem sep13 : Statement (.sep13) := rfl
theorem sep14 : Statement (.sep14) := rfl
theorem sep15 : Statement (.sep15) := rfl
theorem sex0 : Statement (.sex0) := rfl
theorem sex1 : Statement (.sex1) := rfl
theorem sex2 : Statement (.sex2) := rfl
theorem sex3 : Statement (.sex3) := rfl
theorem sex4 : Statement (.sex4) := rfl
theorem sex5 : Statement (.sex5) := rfl
theorem sex6 : Statement (.sex6) := rfl
theorem sex7 : Statement (.sex7) := rfl
theorem sex8 : Statement (.sex8) := rfl
theorem sex9 : Statement (.sex9) := rfl
theorem sex10 : Statement (.sex10) := rfl
theorem sex11 : Statement (.sex11) := rfl
theorem sex12 : Statement (.sex12) := rfl
theorem sex13 : Statement (.sex13) := rfl
theorem sex14 : Statement (.sex14) := rfl
theorem sex15 : Statement (.sex15) := rfl
theorem ldx : Statement (.ldx) := rfl
theorem or : Statement (.or) := rfl
theorem and : Statement (.and) := rfl
theorem xor : Statement (.xor) := rfl
theorem add : Statement (.add) := rfl
theorem sd : Statement (.sd) := rfl
theorem shr : Statement (.shr) := rfl
theorem sm : Statement (.sm) := rfl
theorem ldi (k : Byte) : Statement (.ldi k) := rfl
theorem ori (k : Byte) : Statement (.ori k) := rfl
theorem ani (k : Byte) : Statement (.ani k) := rfl
theorem xri (k : Byte) : Statement (.xri k) := rfl
theorem adi (k : Byte) : Statement (.adi k) := rfl
theorem sdi (k : Byte) : Statement (.sdi k) := rfl
theorem shl : Statement (.shl) := rfl
theorem smi (k : Byte) : Statement (.smi k) := rfl

end Sys2Proof.Laws.EncodingLength
end

