-- ==== Sys2Proof/Tests/Slice0.lean ====
section
/-! SUPPORT. Tests, each a named theorem on fixed values: what WellFormed refuses, what every opcode decodes to, one
step of each instruction (expected results: the vectors V1 to V177 and the properties S2, S7, S8 of
95_test_vectors.md), and for every obligation with hypotheses a concrete state that meets them. -/

namespace Sys2Proof

/-! ### Helpers -/

/-- Bytes put at an address and the following ones. -/
def Machine.State.place (s : Machine.State) (a : Word) : List Byte → Machine.State
  | [] => s
  | b :: bytes => (s.poke a b).place (a + 1) bytes

namespace Tests

open Sys2Proof.Machine

/-- The start state of the vectors: reset, but `P = 3` and `R[3] = 0x0010`, and no call made. -/
def base : State := { State.reset.writeReg 3 0x0010#16 with p := 3, trace := [] }

/-- The state after a step. -/
def after (s : State) : State :=
  match step s with
  | .next s' => s'
  | .fault _ => s
  | .refused _ => s

/-- The state after an instruction, phase 2 only. -/
def afterExec (i : Instr) (s : State) : State :=
  match exec i s with
  | .next s' => s'
  | .fault _ => s
  | .refused _ => s


/-! ### What WellFormed refuses -/

/-- R6: 65537 bytes of memory are too many, 65536 are not. -/
theorem test_memSizeOk : Config.memSizeOk { Config.illustrative with memSize := 65537 } = false ∧
    Config.wf { Config.illustrative with memSize := 65537 } = false ∧
    Config.wf { Config.illustrative with memSize := 65536 } = true := by decide

/-- R7: a budget of 28 cycles is too small, one of 29 is not. -/
theorem test_frameCyclesOk : Config.frameCyclesOk { Config.illustrative with frameCycles := 28 } = false ∧
    Config.wf { Config.illustrative with frameCycles := 28 } = false ∧
    Config.wf { Config.illustrative with frameCycles := 29 } = true := by decide

/-- R94: no byte at all, LBR with one operand byte, INC with an operand byte, LDI with two: none is right. -/
theorem test_wellFormedBytes : wellFormedBytes [] = false ∧ wellFormedBytes [0xC0, 0x12] = false ∧
    wellFormedBytes [0x10, 0x00] = false ∧ wellFormedBytes [0xF8, 0x01, 0x02] = false ∧
    wellFormedBytes [0xC0, 0x12, 0x34] = true ∧ wellFormedBytes [0xC8] = true := by decide

/-! ### Decoding (words written out from R95, R96 and the encoding line of each rule) -/

/-- The instruction of an opcode byte when the bytes 0xA5 and 0x3C follow it. -/
def dec (op : Byte) : Instr := decodeBytes op 0xA5 0x3C

theorem test_decode_0 :
    [0x00, 0x01, 0x02, 0x03, 0x04, 0x05, 0x06, 0x07, 0x08, 0x09, 0x0A, 0x0B, 0x0C, 0x0D, 0x0E, 0x0F].map dec =
      [.idl, .ldn1, .ldn2, .ldn3, .ldn4, .ldn5, .ldn6, .ldn7, .ldn8, .ldn9, .ldn10, .ldn11, .ldn12, .ldn13, .ldn14,
        .ldn15] := by
  rfl

theorem test_decode_1 :
    [0x10, 0x11, 0x12, 0x13, 0x14, 0x15, 0x16, 0x17, 0x18, 0x19, 0x1A, 0x1B, 0x1C, 0x1D, 0x1E, 0x1F].map dec =
      [.inc0, .inc1, .inc2, .inc3, .inc4, .inc5, .inc6, .inc7, .inc8, .inc9, .inc10, .inc11, .inc12, .inc13,
        .inc14, .inc15] := by
  rfl

theorem test_decode_2 :
    [0x20, 0x21, 0x22, 0x23, 0x24, 0x25, 0x26, 0x27, 0x28, 0x29, 0x2A, 0x2B, 0x2C, 0x2D, 0x2E, 0x2F].map dec =
      [.dec0, .dec1, .dec2, .dec3, .dec4, .dec5, .dec6, .dec7, .dec8, .dec9, .dec10, .dec11, .dec12, .dec13,
        .dec14, .dec15] := by
  rfl

theorem test_decode_3 :
    [0x30, 0x31, 0x32, 0x33, 0x34, 0x35, 0x36, 0x37, 0x38, 0x39, 0x3A, 0x3B, 0x3C, 0x3D, 0x3E, 0x3F].map dec =
      [.br 0xA5, .bq 0xA5, .bz 0xA5, .bdf 0xA5, .b1 0xA5, .b2 0xA5, .b3 0xA5, .b4 0xA5, .skp 0xA5, .bnq 0xA5,
        .bnz 0xA5, .bnf 0xA5, .bn1 0xA5, .bn2 0xA5, .bn3 0xA5, .bn4 0xA5] := by
  rfl

theorem test_decode_4 :
    [0x40, 0x41, 0x42, 0x43, 0x44, 0x45, 0x46, 0x47, 0x48, 0x49, 0x4A, 0x4B, 0x4C, 0x4D, 0x4E, 0x4F].map dec =
      [.lda0, .lda1, .lda2, .lda3, .lda4, .lda5, .lda6, .lda7, .lda8, .lda9, .lda10, .lda11, .lda12, .lda13,
        .lda14, .lda15] := by
  rfl

theorem test_decode_5 :
    [0x50, 0x51, 0x52, 0x53, 0x54, 0x55, 0x56, 0x57, 0x58, 0x59, 0x5A, 0x5B, 0x5C, 0x5D, 0x5E, 0x5F].map dec =
      [.str0, .str1, .str2, .str3, .str4, .str5, .str6, .str7, .str8, .str9, .str10, .str11, .str12, .str13,
        .str14, .str15] := by
  rfl

theorem test_decode_6 :
    [0x60, 0x61, 0x62, 0x63, 0x64, 0x65, 0x66, 0x67, 0x68, 0x69, 0x6A, 0x6B, 0x6C, 0x6D, 0x6E, 0x6F].map dec =
      [.irx, .out1, .out2, .out3, .out4, .out5, .out6, .out7, .ill68, .inp1, .inp2, .inp3, .inp4, .inp5, .inp6,
        .inp7] := by
  rfl

theorem test_decode_7 :
    [0x70, 0x71, 0x72, 0x73, 0x74, 0x75, 0x76, 0x77, 0x78, 0x79, 0x7A, 0x7B, 0x7C, 0x7D, 0x7E, 0x7F].map dec =
      [.ret, .dis, .ldxa, .stxd, .adc, .sdb, .shrc, .smb, .sav, .mark, .req, .seq, .adci 0xA5, .sdbi 0xA5, .shlc,
        .smbi 0xA5] := by
  rfl

theorem test_decode_8 :
    [0x80, 0x81, 0x82, 0x83, 0x84, 0x85, 0x86, 0x87, 0x88, 0x89, 0x8A, 0x8B, 0x8C, 0x8D, 0x8E, 0x8F].map dec =
      [.glo0, .glo1, .glo2, .glo3, .glo4, .glo5, .glo6, .glo7, .glo8, .glo9, .glo10, .glo11, .glo12, .glo13,
        .glo14, .glo15] := by
  rfl

theorem test_decode_9 :
    [0x90, 0x91, 0x92, 0x93, 0x94, 0x95, 0x96, 0x97, 0x98, 0x99, 0x9A, 0x9B, 0x9C, 0x9D, 0x9E, 0x9F].map dec =
      [.ghi0, .ghi1, .ghi2, .ghi3, .ghi4, .ghi5, .ghi6, .ghi7, .ghi8, .ghi9, .ghi10, .ghi11, .ghi12, .ghi13,
        .ghi14, .ghi15] := by
  rfl

theorem test_decode_A :
    [0xA0, 0xA1, 0xA2, 0xA3, 0xA4, 0xA5, 0xA6, 0xA7, 0xA8, 0xA9, 0xAA, 0xAB, 0xAC, 0xAD, 0xAE, 0xAF].map dec =
      [.plo0, .plo1, .plo2, .plo3, .plo4, .plo5, .plo6, .plo7, .plo8, .plo9, .plo10, .plo11, .plo12, .plo13,
        .plo14, .plo15] := by
  rfl

theorem test_decode_B :
    [0xB0, 0xB1, 0xB2, 0xB3, 0xB4, 0xB5, 0xB6, 0xB7, 0xB8, 0xB9, 0xBA, 0xBB, 0xBC, 0xBD, 0xBE, 0xBF].map dec =
      [.phi0, .phi1, .phi2, .phi3, .phi4, .phi5, .phi6, .phi7, .phi8, .phi9, .phi10, .phi11, .phi12, .phi13,
        .phi14, .phi15] := by
  rfl

theorem test_decode_C :
    [0xC0, 0xC1, 0xC2, 0xC3, 0xC4, 0xC5, 0xC6, 0xC7, 0xC8, 0xC9, 0xCA, 0xCB, 0xCC, 0xCD, 0xCE, 0xCF].map dec =
      [.lbr 0xA53C, .lbq 0xA53C, .lbz 0xA53C, .lbdf 0xA53C, .nop, .lsnq, .lsnz, .lsnf, .lskp, .lbnq 0xA53C,
        .lbnz 0xA53C, .lbnf 0xA53C, .lsie, .lsq, .lsz, .lsdf] := by
  rfl

theorem test_decode_D :
    [0xD0, 0xD1, 0xD2, 0xD3, 0xD4, 0xD5, 0xD6, 0xD7, 0xD8, 0xD9, 0xDA, 0xDB, 0xDC, 0xDD, 0xDE, 0xDF].map dec =
      [.sep0, .sep1, .sep2, .sep3, .sep4, .sep5, .sep6, .sep7, .sep8, .sep9, .sep10, .sep11, .sep12, .sep13,
        .sep14, .sep15] := by
  rfl

theorem test_decode_E :
    [0xE0, 0xE1, 0xE2, 0xE3, 0xE4, 0xE5, 0xE6, 0xE7, 0xE8, 0xE9, 0xEA, 0xEB, 0xEC, 0xED, 0xEE, 0xEF].map dec =
      [.sex0, .sex1, .sex2, .sex3, .sex4, .sex5, .sex6, .sex7, .sex8, .sex9, .sex10, .sex11, .sex12, .sex13,
        .sex14, .sex15] := by
  rfl

theorem test_decode_F :
    [0xF0, 0xF1, 0xF2, 0xF3, 0xF4, 0xF5, 0xF6, 0xF7, 0xF8, 0xF9, 0xFA, 0xFB, 0xFC, 0xFD, 0xFE, 0xFF].map dec =
      [.ldx, .or, .and, .xor, .add, .sd, .shr, .sm, .ldi 0xA5, .ori 0xA5, .ani 0xA5, .xri 0xA5, .adi 0xA5,
        .sdi 0xA5, .shl, .smi 0xA5] := by
  rfl

/-! ### Memory reference and register operations: one step -/

/-- V1 (R131), V2 (R131). -/
theorem test_ldn :
    (let s := after (({ base with d := 0x11#8 }).writeReg 5 0x0200#16 |>.place 0x0010#16 [0x05]
      |>.place 0x0200#16 [0xA7]);
      s.d = 0xA7#8 ∧ s.readReg 3 = 0x0011#16) ∧
    (let s := after (({ base with d := 0x11#8, cfg := ⟨4096, 0x5A, 3668⟩ }).writeReg 5 0xFFFF#16
      |>.place 0x0010#16 [0x05]);
      s.d = 0x5A#8 ∧ s.readReg 3 = 0x0011#16) := by decide

/-- V3 (R132), V4 (R132). -/
theorem test_lda :
    (let s := after (base.writeReg 5 0xFFFF#16 |>.place 0x0010#16 [0x45] |>.place 0xFFFF#16 [0x3C]);
      s.d = 0x3C#8 ∧ s.readReg 3 = 0x0011#16 ∧ s.readReg 5 = 0x0000#16) ∧
    (let s := after (base |>.place 0x0010#16 [0x43, 0x99]);
      s.d = 0x99#8 ∧ s.readReg 3 = 0x0012#16) := by decide

/-- V5 (R133). -/
theorem test_ldx :
    (let s := after (({ base with x := 2 }).writeReg 2 0x0300#16 |>.place 0x0010#16 [0xF0] |>.place 0x0300#16 [0x80]);
      s.d = 0x80#8 ∧ s.readReg 3 = 0x0011#16) := by decide

/-- V6 (R134). -/
theorem test_ldxa :
    (let s := after (({ base with x := 2 }).writeReg 2 0x0300#16 |>.place 0x0010#16 [0x72] |>.place 0x0300#16 [0x80]);
      s.d = 0x80#8 ∧ s.readReg 2 = 0x0301#16 ∧ s.readReg 3 = 0x0011#16) := by decide

/-- V7 (R135), V8 (R135). -/
theorem test_ldi :
    (let s := after (base |>.place 0x0010#16 [0xF8, 0xAB]);
      s.d = 0xAB#8 ∧ s.readReg 3 = 0x0012#16) ∧
    (let s := after (base.writeReg 3 0xFFFF#16 |>.place 0xFFFF#16 [0xF8] |>.place 0x0000#16 [0x77]);
      s.d = 0x77#8 ∧ s.readReg 3 = 0x0001#16) := by decide

/-- V9 (R136), V10 (R136). -/
theorem test_str :
    (let s := after (({ base with d := 0xEE#8 }).writeReg 5 0x0200#16 |>.place 0x0010#16 [0x55]);
      s.readReg 3 = 0x0011#16 ∧ s.peek 0x0200#16 = 0xEE#8) ∧
    (let s := after (({ base with d := 0xEE#8, cfg := ⟨4096, 0xFF, 3668⟩ }).writeReg 5 0x2000#16
      |>.place 0x0010#16 [0x55]);
      s.readReg 3 = 0x0011#16 ∧ s.peek 0x2000#16 = 0xFF#8 ∧ s.mem = [(0x0010, 0x55)]) := by decide

/-- V11 (R137). -/
theorem test_stxd :
    (let s := after (({ base with x := 2, d := 0x42#8 }).writeReg 2 0x0000#16 |>.place 0x0010#16 [0x73]);
      s.readReg 2 = 0xFFFF#16 ∧ s.readReg 3 = 0x0011#16 ∧ s.peek 0x0000#16 = 0x42#8) := by decide

/-- V13 (R140), V14 (R140). -/
theorem test_inc :
    (let s := after (base.writeReg 7 0xFFFF#16 |>.place 0x0010#16 [0x17]);
      s.readReg 3 = 0x0011#16 ∧ s.readReg 7 = 0x0000#16) ∧
    (let s := after (base |>.place 0x0010#16 [0x13]);
      s.readReg 3 = 0x0012#16) := by decide

/-- V15 (R141). -/
theorem test_dec :
    (let s := after (({ base with df := true }).writeReg 7 0x0000#16 |>.place 0x0010#16 [0x27]);
      s.df = true ∧ s.readReg 3 = 0x0011#16 ∧ s.readReg 7 = 0xFFFF#16) := by decide

/-- V17 (R142). -/
theorem test_irx :
    (let s := after (({ base with x := 2 }).writeReg 2 0x00FF#16 |>.place 0x0010#16 [0x60]);
      s.readReg 2 = 0x0100#16 ∧ s.readReg 3 = 0x0011#16) := by decide

/-- V18 (R143). -/
theorem test_glo :
    (let s := after (base.writeReg 9 0x12CD#16 |>.place 0x0010#16 [0x89]);
      s.d = 0xCD#8 ∧ s.readReg 3 = 0x0011#16) := by decide

/-- V19 (R144). -/
theorem test_ghi :
    (let s := after (base.writeReg 9 0x12CD#16 |>.place 0x0010#16 [0x99]);
      s.d = 0x12#8 ∧ s.readReg 3 = 0x0011#16) := by decide

/-- V20 (R145), V22 (R145). -/
theorem test_plo :
    (let s := after (({ base with d := 0x7F#8 }).writeReg 9 0x12CD#16 |>.place 0x0010#16 [0xA9]);
      s.readReg 3 = 0x0011#16 ∧ s.readReg 9 = 0x127F#16) ∧
    (let s := after (({ base with d := 0x40#8 } : State) |>.place 0x0010#16 [0xA3]);
      s.readReg 3 = 0x0040#16) := by decide

/-- V21 (R146), V23 (R146). -/
theorem test_phi :
    (let s := after (({ base with d := 0x7F#8 }).writeReg 9 0x12CD#16 |>.place 0x0010#16 [0xB9]);
      s.readReg 3 = 0x0011#16 ∧ s.readReg 9 = 0x7FCD#16) ∧
    (let s := after (({ base with d := 0x40#8 } : State) |>.place 0x0010#16 [0xB3]);
      s.readReg 3 = 0x4011#16) := by decide

/-! ### Logic and shift: one step -/

/-- V24 (R151). -/
theorem test_or :
    (let s := after (({ base with x := 2, d := 0x0F#8, df := true }).writeReg 2 0x0300#16
      |>.place 0x0010#16 [0xF1] |>.place 0x0300#16 [0x55]);
      s.d = 0x5F#8 ∧ s.df = true ∧ s.readReg 3 = 0x0011#16) := by decide

/-- V25 (R152). -/
theorem test_ori :
    (let s := after (({ base with d := 0xA0#8 } : State) |>.place 0x0010#16 [0xF9, 0x05]);
      s.d = 0xA5#8 ∧ s.readReg 3 = 0x0012#16) := by decide

/-- V26 (R153). -/
theorem test_xor :
    (let s := after (({ base with x := 2, d := 0xFF#8 }).writeReg 2 0x0300#16 |>.place 0x0010#16 [0xF3]
      |>.place 0x0300#16 [0x55]);
      s.d = 0xAA#8 ∧ s.readReg 3 = 0x0011#16) := by decide

/-- V27 (R154). -/
theorem test_xri :
    (let s := after (({ base with d := 0x5A#8 } : State) |>.place 0x0010#16 [0xFB, 0x5A]);
      s.d = 0x00#8 ∧ s.readReg 3 = 0x0012#16) := by decide

/-- V28 (R155). -/
theorem test_and :
    (let s := after (({ base with x := 2, d := 0xF0#8 }).writeReg 2 0x0300#16 |>.place 0x0010#16 [0xF2]
      |>.place 0x0300#16 [0x3C]);
      s.d = 0x30#8 ∧ s.readReg 3 = 0x0011#16) := by decide

/-- V29 (R156). -/
theorem test_ani :
    (let s := after (({ base with d := 0xF0#8, df := true } : State) |>.place 0x0010#16 [0xFA, 0x0F]);
      s.d = 0x00#8 ∧ s.df = true ∧ s.readReg 3 = 0x0012#16) := by decide

/-- V30 (R157), V31 (R157). -/
theorem test_shr :
    (let s := after (({ base with d := 0x81#8, df := false } : State) |>.place 0x0010#16 [0xF6]);
      s.d = 0x40#8 ∧ s.df = true ∧ s.readReg 3 = 0x0011#16) ∧
    (let s := after (({ base with d := 0x01#8, df := true } : State) |>.place 0x0010#16 [0xF6]);
      s.d = 0x00#8 ∧ s.df = true ∧ s.readReg 3 = 0x0011#16) := by decide

/-- V32 (R158), V33 (R158). -/
theorem test_shrc :
    (let s := after (({ base with d := 0x02#8, df := true } : State) |>.place 0x0010#16 [0x76]);
      s.d = 0x81#8 ∧ s.df = false ∧ s.readReg 3 = 0x0011#16) ∧
    (let s := after (({ base with d := 0x01#8, df := false } : State) |>.place 0x0010#16 [0x76]);
      s.d = 0x00#8 ∧ s.df = true ∧ s.readReg 3 = 0x0011#16) := by decide

/-- V34 (R159). -/
theorem test_shl :
    (let s := after (({ base with d := 0x81#8, df := false } : State) |>.place 0x0010#16 [0xFE]);
      s.d = 0x02#8 ∧ s.df = true ∧ s.readReg 3 = 0x0011#16) := by decide

/-- V35 (R160), V36 (R160). -/
theorem test_shlc :
    (let s := after (({ base with d := 0x80#8, df := true } : State) |>.place 0x0010#16 [0x7E]);
      s.d = 0x01#8 ∧ s.df = true ∧ s.readReg 3 = 0x0011#16) ∧
    (let s := after (({ base with d := 0x40#8, df := true } : State) |>.place 0x0010#16 [0x7E]);
      s.d = 0x81#8 ∧ s.df = false ∧ s.readReg 3 = 0x0011#16) := by decide

/-! ### Arithmetic: one step -/

/-- V37 (R167), V38 (R167). -/
theorem test_add :
    (let s := after (({ base with x := 2, d := 0x3A#8, df := true }).writeReg 2 0x0300#16
      |>.place 0x0010#16 [0xF4] |>.place 0x0300#16 [0x48]);
      s.d = 0x82#8 ∧ s.df = false ∧ s.readReg 3 = 0x0011#16) ∧
    (let s := after (({ base with x := 2, d := 0xFF#8, df := false }).writeReg 2 0x0300#16
      |>.place 0x0010#16 [0xF4] |>.place 0x0300#16 [0x01]);
      s.d = 0x00#8 ∧ s.df = true ∧ s.readReg 3 = 0x0011#16) := by decide

/-- V40 (R168), V41 (R168). -/
theorem test_adi :
    (let s := after (({ base with d := 0x12#8, df := false } : State) |>.place 0x0010#16 [0xFC, 0xF0]);
      s.d = 0x02#8 ∧ s.df = true ∧ s.readReg 3 = 0x0012#16) ∧
    (let s := after (({ base with d := 0x00#8, df := true } : State) |>.place 0x0010#16 [0xFC, 0x00]);
      s.d = 0x00#8 ∧ s.df = false ∧ s.readReg 3 = 0x0012#16) := by decide

/-- V42 (R169), V44 (R169). -/
theorem test_adc :
    (let s := after (({ base with x := 2, d := 0x3A#8, df := true }).writeReg 2 0x0300#16
      |>.place 0x0010#16 [0x74] |>.place 0x0300#16 [0x48]);
      s.d = 0x83#8 ∧ s.df = false ∧ s.readReg 3 = 0x0011#16) ∧
    (let s := after (({ base with x := 2, d := 0xFF#8, df := true }).writeReg 2 0x0300#16
      |>.place 0x0010#16 [0x74] |>.place 0x0300#16 [0xFF]);
      s.d = 0xFF#8 ∧ s.df = true ∧ s.readReg 3 = 0x0011#16) := by decide

/-- V45 (R170), V46 (R170). -/
theorem test_adci :
    (let s := after (({ base with d := 0x00#8, df := true } : State) |>.place 0x0010#16 [0x7C, 0x00]);
      s.d = 0x01#8 ∧ s.df = false ∧ s.readReg 3 = 0x0012#16) ∧
    (let s := after (({ base with d := 0x7F#8, df := false } : State) |>.place 0x0010#16 [0x7C, 0x80]);
      s.d = 0xFF#8 ∧ s.df = false ∧ s.readReg 3 = 0x0012#16) := by decide

/-- V47 (R171), V48 (R171). -/
theorem test_sd :
    (let s := after (({ base with x := 2, d := 0x20#8, df := false }).writeReg 2 0x0300#16
      |>.place 0x0010#16 [0xF5] |>.place 0x0300#16 [0x50]);
      s.d = 0x30#8 ∧ s.df = true ∧ s.readReg 3 = 0x0011#16) ∧
    (let s := after (({ base with x := 2, d := 0x50#8, df := true }).writeReg 2 0x0300#16
      |>.place 0x0010#16 [0xF5] |>.place 0x0300#16 [0x20]);
      s.d = 0xD0#8 ∧ s.df = false ∧ s.readReg 3 = 0x0011#16) := by decide

/-- V50 (R172), V51 (R172). -/
theorem test_sdi :
    (let s := after (({ base with d := 0x01#8, df := false } : State) |>.place 0x0010#16 [0xFD, 0x00]);
      s.d = 0xFF#8 ∧ s.df = false ∧ s.readReg 3 = 0x0012#16) ∧
    (let s := after (({ base with d := 0x00#8, df := false } : State) |>.place 0x0010#16 [0xFD, 0x00]);
      s.d = 0x00#8 ∧ s.df = true ∧ s.readReg 3 = 0x0012#16) := by decide

/-- V52 (R173), V54 (R173). -/
theorem test_sdb :
    (let s := after (({ base with x := 2, d := 0x20#8, df := false }).writeReg 2 0x0300#16
      |>.place 0x0010#16 [0x75] |>.place 0x0300#16 [0x50]);
      s.d = 0x2F#8 ∧ s.df = true ∧ s.readReg 3 = 0x0011#16) ∧
    (let s := after (({ base with x := 2, d := 0x00#8, df := false }).writeReg 2 0x0300#16
      |>.place 0x0010#16 [0x75] |>.place 0x0300#16 [0x00]);
      s.d = 0xFF#8 ∧ s.df = false ∧ s.readReg 3 = 0x0011#16) := by decide

/-- V55 (R174), V56 (R174). -/
theorem test_sdbi :
    (let s := after (({ base with d := 0x10#8, df := true } : State) |>.place 0x0010#16 [0x7D, 0x10]);
      s.d = 0x00#8 ∧ s.df = true ∧ s.readReg 3 = 0x0012#16) ∧
    (let s := after (({ base with d := 0x10#8, df := false } : State) |>.place 0x0010#16 [0x7D, 0x10]);
      s.d = 0xFF#8 ∧ s.df = false ∧ s.readReg 3 = 0x0012#16) := by decide

/-- V57 (R175), V58 (R175). -/
theorem test_sm :
    (let s := after (({ base with x := 2, d := 0x50#8, df := false }).writeReg 2 0x0300#16
      |>.place 0x0010#16 [0xF7] |>.place 0x0300#16 [0x20]);
      s.d = 0x30#8 ∧ s.df = true ∧ s.readReg 3 = 0x0011#16) ∧
    (let s := after (({ base with x := 2, d := 0x20#8, df := true }).writeReg 2 0x0300#16
      |>.place 0x0010#16 [0xF7] |>.place 0x0300#16 [0x50]);
      s.d = 0xD0#8 ∧ s.df = false ∧ s.readReg 3 = 0x0011#16) := by decide

/-- V60 (R176), V62 (R176). -/
theorem test_smi :
    (let s := after (({ base with d := 0x05#8, df := false } : State) |>.place 0x0010#16 [0xFF, 0x05]);
      s.d = 0x00#8 ∧ s.df = true ∧ s.readReg 3 = 0x0012#16) ∧
    (let s := after (({ base with d := 0x80#8, df := false } : State) |>.place 0x0010#16 [0xFF, 0x01]);
      s.d = 0x7F#8 ∧ s.df = true ∧ s.readReg 3 = 0x0012#16) := by decide

/-- V63 (R177), V65 (R177). -/
theorem test_smb :
    (let s := after (({ base with x := 2, d := 0x50#8, df := false }).writeReg 2 0x0300#16
      |>.place 0x0010#16 [0x77] |>.place 0x0300#16 [0x20]);
      s.d = 0x2F#8 ∧ s.df = true ∧ s.readReg 3 = 0x0011#16) ∧
    (let s := after (({ base with x := 2, d := 0x00#8, df := false }).writeReg 2 0x0300#16
      |>.place 0x0010#16 [0x77] |>.place 0x0300#16 [0x00]);
      s.d = 0xFF#8 ∧ s.df = false ∧ s.readReg 3 = 0x0011#16) := by decide

/-- V66 (R178), V67 (R178). -/
theorem test_smbi :
    (let s := after (({ base with d := 0x00#8, df := false } : State) |>.place 0x0010#16 [0x7F, 0xFF]);
      s.d = 0x00#8 ∧ s.df = false ∧ s.readReg 3 = 0x0012#16) ∧
    (let s := after (({ base with d := 0x00#8, df := true } : State) |>.place 0x0010#16 [0x7F, 0xFF]);
      s.d = 0x01#8 ∧ s.df = false ∧ s.readReg 3 = 0x0012#16) := by decide

/-! ### Short branches: one step -/

/-- V70 (R186), V71 (R186). -/
theorem test_br :
    (let s := after (base.writeReg 3 0x12FE#16 |>.place 0x12FE#16 [0x30, 0x34]);
      s.readReg 3 = 0x1234#16) ∧
    (let s := after (base.writeReg 3 0x12FF#16 |>.place 0x12FF#16 [0x30] |>.place 0x1300#16 [0x34]);
      s.readReg 3 = 0x1334#16) := by decide

/-- V72 (R187), V73 (R187). -/
theorem test_bq :
    (let s := after (({ base with q := true } : State) |>.place 0x0010#16 [0x31, 0x80]);
      s.readReg 3 = 0x0080#16) ∧
    (let s := after (({ base with q := false } : State) |>.place 0x0010#16 [0x31, 0x80]);
      s.readReg 3 = 0x0012#16) := by decide

/-- V74 (R188), V75 (R188). -/
theorem test_bz :
    (let s := after (({ base with d := 0x00#8 } : State) |>.place 0x0010#16 [0x32, 0x80]);
      s.readReg 3 = 0x0080#16) ∧
    (let s := after (({ base with d := 0x01#8 } : State) |>.place 0x0010#16 [0x32, 0x80]);
      s.readReg 3 = 0x0012#16) := by decide

/-- V76 (R189), V77 (R189). -/
theorem test_bdf :
    (let s := after (({ base with df := true } : State) |>.place 0x0010#16 [0x33, 0x80]);
      s.readReg 3 = 0x0080#16) ∧
    (let s := after (({ base with df := false } : State) |>.place 0x0010#16 [0x33, 0x80]);
      s.readReg 3 = 0x0012#16) := by decide

/-- V78 (R190). -/
theorem test_b1 :
    (let s := after (base |>.place 0x0010#16 [0x34, 0x80]);
      s.readReg 3 = 0x0080#16) := by decide

/-- V79 (R191). -/
theorem test_b2 :
    (let s := after (base |>.place 0x0010#16 [0x35, 0x80]);
      s.readReg 3 = 0x0012#16) := by decide

/-- V80 (R192). -/
theorem test_b3 :
    (let s := after (base |>.place 0x0010#16 [0x36, 0x80]);
      s.readReg 3 = 0x0012#16) := by decide

/-- V81 (R193), V82 (R193). -/
theorem test_b4 :
    (let s := after (({ base with keyAnswers := [true] } : State) |>.place 0x0010#16 [0x37, 0x80]);
      s.readReg 3 = 0x0080#16 ∧ s.trace = [.queryKeyPressed true]) ∧
    (let s := after (({ base with keyAnswers := [false] } : State) |>.place 0x0010#16 [0x37, 0x80]);
      s.readReg 3 = 0x0012#16 ∧ s.trace = [.queryKeyPressed false]) := by decide

/-- V84 (R194). -/
theorem test_skp :
    (let s := after (base.writeReg 3 0x12FE#16 |>.place 0x12FE#16 [0x38, 0x80]);
      s.readReg 3 = 0x1300#16) := by decide

/-- V85 (R195), V86 (R195). -/
theorem test_bnq :
    (let s := after (({ base with q := false } : State) |>.place 0x0010#16 [0x39, 0x80]);
      s.readReg 3 = 0x0080#16) ∧
    (let s := after (({ base with q := true } : State) |>.place 0x0010#16 [0x39, 0x80]);
      s.readReg 3 = 0x0012#16) := by decide

/-- V87 (R196), V88 (R196). -/
theorem test_bnz :
    (let s := after (({ base with d := 0x80#8 } : State) |>.place 0x0010#16 [0x3A, 0x80]);
      s.readReg 3 = 0x0080#16) ∧
    (let s := after (({ base with d := 0x00#8 } : State) |>.place 0x0010#16 [0x3A, 0x80]);
      s.readReg 3 = 0x0012#16) := by decide

/-- V89 (R197), V90 (R197). -/
theorem test_bnf :
    (let s := after (({ base with df := false } : State) |>.place 0x0010#16 [0x3B, 0x80]);
      s.readReg 3 = 0x0080#16) ∧
    (let s := after (({ base with df := true } : State) |>.place 0x0010#16 [0x3B, 0x80]);
      s.readReg 3 = 0x0012#16) := by decide

/-- V91 (R198). -/
theorem test_bn1 :
    (let s := after (base |>.place 0x0010#16 [0x3C, 0x80]);
      s.readReg 3 = 0x0012#16) := by decide

/-- V92 (R199). -/
theorem test_bn2 :
    (let s := after (base |>.place 0x0010#16 [0x3D, 0x80]);
      s.readReg 3 = 0x0080#16) := by decide

/-- V93 (R200). -/
theorem test_bn3 :
    (let s := after (base |>.place 0x0010#16 [0x3E, 0x80]);
      s.readReg 3 = 0x0080#16) := by decide

/-- V94 (R201), V95 (R201). -/
theorem test_bn4 :
    (let s := after (({ base with keyAnswers := [false] } : State) |>.place 0x0010#16 [0x3F, 0x80]);
      s.readReg 3 = 0x0080#16 ∧ s.trace = [.queryKeyPressed false]) ∧
    (let s := after (({ base with keyAnswers := [true] } : State) |>.place 0x0010#16 [0x3F, 0x80]);
      s.readReg 3 = 0x0012#16 ∧ s.trace = [.queryKeyPressed true]) := by decide

/-! ### Long branches: one step -/

/-- V96 (R211), V97 (R211). -/
theorem test_lbr :
    (let s := after (base |>.place 0x0010#16 [0xC0, 0x12, 0x34]);
      s.readReg 3 = 0x1234#16) ∧
    (let s := after (base.writeReg 3 0xFFFE#16 |>.place 0xFFFE#16 [0xC0, 0x12] |>.place 0x0000#16 [0x34]);
      s.readReg 3 = 0x1234#16) := by decide

/-- V98 (R212), V99 (R212). -/
theorem test_lbq :
    (let s := after (({ base with q := true } : State) |>.place 0x0010#16 [0xC1, 0x12, 0x34]);
      s.readReg 3 = 0x1234#16) ∧
    (let s := after (({ base with q := false } : State) |>.place 0x0010#16 [0xC1, 0x12, 0x34]);
      s.readReg 3 = 0x0013#16) := by decide

/-- V100 (R213), V101 (R213). -/
theorem test_lbz :
    (let s := after (({ base with d := 0x00#8 } : State) |>.place 0x0010#16 [0xC2, 0x12, 0x34]);
      s.readReg 3 = 0x1234#16) ∧
    (let s := after (({ base with d := 0x80#8 } : State) |>.place 0x0010#16 [0xC2, 0x12, 0x34]);
      s.readReg 3 = 0x0013#16) := by decide

/-- V102 (R214), V103 (R214). -/
theorem test_lbdf :
    (let s := after (({ base with df := true } : State) |>.place 0x0010#16 [0xC3, 0x12, 0x34]);
      s.readReg 3 = 0x1234#16) ∧
    (let s := after (({ base with df := false } : State) |>.place 0x0010#16 [0xC3, 0x12, 0x34]);
      s.readReg 3 = 0x0013#16) := by decide

/-- V104 (R215), V105 (R215). -/
theorem test_lbnq :
    (let s := after (({ base with q := false } : State) |>.place 0x0010#16 [0xC9, 0x12, 0x34]);
      s.readReg 3 = 0x1234#16) ∧
    (let s := after (({ base with q := true } : State) |>.place 0x0010#16 [0xC9, 0x12, 0x34]);
      s.readReg 3 = 0x0013#16) := by decide

/-- V106 (R216), V107 (R216). -/
theorem test_lbnz :
    (let s := after (({ base with d := 0x01#8 } : State) |>.place 0x0010#16 [0xCA, 0x12, 0x34]);
      s.readReg 3 = 0x1234#16) ∧
    (let s := after (({ base with d := 0x00#8 } : State) |>.place 0x0010#16 [0xCA, 0x12, 0x34]);
      s.readReg 3 = 0x0013#16) := by decide

/-- V108 (R217), V109 (R217). -/
theorem test_lbnf :
    (let s := after (({ base with df := false } : State) |>.place 0x0010#16 [0xCB, 0x12, 0x34]);
      s.readReg 3 = 0x1234#16) ∧
    (let s := after (({ base with df := true } : State) |>.place 0x0010#16 [0xCB, 0x12, 0x34]);
      s.readReg 3 = 0x0013#16) := by decide

/-! ### Long skips: one step -/

/-- V110 (R221), V111 (R221). -/
theorem test_lskp :
    (let s := after (base |>.place 0x0010#16 [0xC8]);
      s.readReg 3 = 0x0013#16) ∧
    (let s := after (base.writeReg 3 0xFFFF#16 |>.place 0xFFFF#16 [0xC8]);
      s.readReg 3 = 0x0002#16) := by decide

/-- V112 (R222), V113 (R222). -/
theorem test_lsnq :
    (let s := after (({ base with q := false } : State) |>.place 0x0010#16 [0xC5]);
      s.readReg 3 = 0x0013#16) ∧
    (let s := after (({ base with q := true } : State) |>.place 0x0010#16 [0xC5]);
      s.readReg 3 = 0x0011#16) := by decide

/-- V114 (R223), V115 (R223). -/
theorem test_lsnz :
    (let s := after (({ base with d := 0x07#8 } : State) |>.place 0x0010#16 [0xC6]);
      s.readReg 3 = 0x0013#16) ∧
    (let s := after (({ base with d := 0x00#8 } : State) |>.place 0x0010#16 [0xC6]);
      s.readReg 3 = 0x0011#16) := by decide

/-- V116 (R224), V117 (R224). -/
theorem test_lsnf :
    (let s := after (({ base with df := false } : State) |>.place 0x0010#16 [0xC7]);
      s.readReg 3 = 0x0013#16) ∧
    (let s := after (({ base with df := true } : State) |>.place 0x0010#16 [0xC7]);
      s.readReg 3 = 0x0011#16) := by decide

/-- V118 (R225), V119 (R225). -/
theorem test_lsq :
    (let s := after (({ base with q := true } : State) |>.place 0x0010#16 [0xCD]);
      s.readReg 3 = 0x0013#16) ∧
    (let s := after (({ base with q := false } : State) |>.place 0x0010#16 [0xCD]);
      s.readReg 3 = 0x0011#16) := by decide

/-- V120 (R226), V121 (R226). -/
theorem test_lsz :
    (let s := after (({ base with d := 0x00#8 } : State) |>.place 0x0010#16 [0xCE]);
      s.readReg 3 = 0x0013#16) ∧
    (let s := after (({ base with d := 0x07#8 } : State) |>.place 0x0010#16 [0xCE]);
      s.readReg 3 = 0x0011#16) := by decide

/-- V122 (R227), V123 (R227). -/
theorem test_lsdf :
    (let s := after (({ base with df := true } : State) |>.place 0x0010#16 [0xCF]);
      s.readReg 3 = 0x0013#16) ∧
    (let s := after (({ base with df := false } : State) |>.place 0x0010#16 [0xCF]);
      s.readReg 3 = 0x0011#16) := by decide

/-- V124 (R229), V125 (R229). -/
theorem test_lsie :
    (let s := after (({ base with ie := true } : State) |>.place 0x0010#16 [0xCC]);
      s.ie = true ∧ s.readReg 3 = 0x0013#16) ∧
    (let s := after (({ base with ie := false } : State) |>.place 0x0010#16 [0xCC]);
      s.readReg 3 = 0x0011#16) := by decide

/-! ### Control: one step -/

/-- V128 (R235), V129 (R235). -/
theorem test_idl :
    (let s := after (({ base with ie := true, cyc := 3637 } : State) |>.place 0x0010#16 [0x00]);
      s.ie = false ∧ s.p = 1 ∧ s.x = 2 ∧ s.t = 0x03#8 ∧ s.cyc = 3639 ∧ s.readReg 3 = 0x0011#16 ∧ s.trace = []) ∧
    (let s := after (({ base with ie := true, cyc := 3635 } : State) |>.place 0x0010#16 [0x00]);
      s.cyc = 3637 ∧ s.readReg 3 = 0x0010#16) := by decide

/-- V130 (R236). -/
theorem test_nop :
    (let s := after (base |>.place 0x0010#16 [0xC4]);
      s.readReg 3 = 0x0011#16) := by decide

/-- V131 (R237). -/
theorem test_seq :
    (let s := after (base |>.place 0x0010#16 [0x7B]);
      s.q = true ∧ s.readReg 3 = 0x0011#16) := by decide

/-- V132 (R238). -/
theorem test_req :
    (let s := after (({ base with q := true } : State) |>.place 0x0010#16 [0x7A]);
      s.q = false ∧ s.readReg 3 = 0x0011#16) := by decide

/-- V133 (R239). -/
theorem test_opcode68 :
    (let s := after (({ base with d := 0x55#8, x := 2 }).writeReg 2 0x0300#16 |>.place 0x0010#16 [0x68]);
      s.readReg 3 = 0x0011#16) := by decide

/-- V134 (R240), V135 (R240). -/
theorem test_sep :
    (let s := after (base.writeReg 5 0x0200#16 |>.place 0x0010#16 [0xD5]);
      s.p = 5 ∧ s.readReg 3 = 0x0011#16) ∧
    (let s := after (base |>.place 0x0010#16 [0xD3]);
      s.readReg 3 = 0x0011#16) := by decide

/-- V136 (R241). -/
theorem test_sex :
    (let s := after (base |>.place 0x0010#16 [0xE2]);
      s.x = 2 ∧ s.readReg 3 = 0x0011#16) := by decide

/-- V138 (R242), V139 (R242). -/
theorem test_ret :
    (let s := after (({ base with x := 2 }).writeReg 2 0x00FE#16 |>.place 0x0010#16 [0x70] |>.place 0x00FE#16 [0x23]);
      s.ie = true ∧ s.x = 2 ∧ s.readReg 2 = 0x00FF#16 ∧ s.readReg 3 = 0x0011#16) ∧
    (let s := after (({ base with x := 3 } : State) |>.place 0x0010#16 [0x70, 0x53]);
      s.ie = true ∧ s.x = 5 ∧ s.readReg 3 = 0x0012#16) := by decide

/-- V140 (R243). -/
theorem test_dis :
    (let s := after (({ base with x := 2, ie := true }).writeReg 2 0x00FE#16 |>.place 0x0010#16 [0x71]
      |>.place 0x00FE#16 [0x45]);
      s.ie = false ∧ s.p = 5 ∧ s.x = 4 ∧ s.readReg 2 = 0x00FF#16 ∧ s.readReg 3 = 0x0011#16) := by decide

/-- V141 (R244). -/
theorem test_sav :
    (let s := after (({ base with t := 0x23#8, x := 2 }).writeReg 2 0x00FE#16 |>.place 0x0010#16 [0x78]);
      s.readReg 3 = 0x0011#16 ∧ s.peek 0x00FE#16 = 0x23#8) := by decide

/-- V142 (R245), V143 (R245). -/
theorem test_mark :
    (let s := after (({ base with x := 5 }).writeReg 2 0x00FF#16 |>.place 0x0010#16 [0x79]);
      s.x = 3 ∧ s.t = 0x53#8 ∧ s.readReg 2 = 0x00FE#16 ∧ s.readReg 3 = 0x0011#16 ∧ s.peek 0x00FF#16 = 0x53#8) ∧
    (let s := after (({ base with x := 5 }).writeReg 2 0x0000#16 |>.place 0x0010#16 [0x79]);
      s.x = 3 ∧ s.t = 0x53#8 ∧ s.readReg 2 = 0xFFFF#16 ∧ s.readReg 3 = 0x0011#16 ∧
        s.peek 0x0000#16 = 0x53#8) := by decide

/-! ### Input and output: one step -/

/-- V144 (R256). -/
theorem test_out1 :
    (let s := after (({ base with x := 2 }).writeReg 2 0x00FE#16 |>.place 0x0010#16 [0x61] |>.place 0x00FE#16 [0x7E]);
      s.readReg 2 = 0x00FF#16 ∧ s.readReg 3 = 0x0011#16 ∧ s.trace = [.setScreenOff]) := by decide

/-- V145 (R256). -/
theorem test_out2 :
    (let s := after (({ base with x := 2 }).writeReg 2 0x00FE#16 |>.place 0x0010#16 [0x62] |>.place 0x00FE#16 [0x7E]);
      s.readReg 2 = 0x00FF#16 ∧ s.readReg 3 = 0x0011#16) := by decide

/-- V147 (R256), V148 (R256). -/
theorem test_out4 :
    (let s := after (({ base with x := 3 } : State) |>.place 0x0010#16 [0x64, 0xA5]);
      s.readReg 3 = 0x0012#16 ∧ s.trace = [.setDigitDisplay 0xA5#8]) ∧
    (let s := after (({ base with x := 2, cfg := ⟨4096, 0x5A, 3668⟩ }).writeReg 2 0x2000#16
      |>.place 0x0010#16 [0x64]);
      s.readReg 2 = 0x2001#16 ∧ s.readReg 3 = 0x0011#16 ∧ s.trace = [.setDigitDisplay 0x5A#8]) := by decide

/-- V149 (R257). -/
theorem test_inp1 :
    (let s := after (({ base with x := 2, d := 0x11#8, cfg := ⟨65536, 0xFF, 3668⟩ }).writeReg 2 0x00FE#16
      |>.place 0x0010#16 [0x69]);
      s.d = 0xFF#8 ∧ s.readReg 3 = 0x0011#16 ∧ s.peek 0x00FE#16 = 0xFF#8 ∧ s.trace = [.setScreenOn]) := by decide

/-- V150 (R257). -/
theorem test_inp2 :
    (let s := after (({ base with x := 2, d := 0x11#8, cfg := ⟨65536, 0xFF, 3668⟩ }).writeReg 2 0x00FE#16
      |>.place 0x0010#16 [0x6A]);
      s.d = 0xFF#8 ∧ s.readReg 3 = 0x0011#16 ∧ s.peek 0x00FE#16 = 0xFF#8) := by decide

/-- V151 (R257), V153 (R257). -/
theorem test_inp4 :
    (let s := after (({ base with x := 2, keypadAnswers := [0x0B#8] }).writeReg 2 0x00FE#16
      |>.place 0x0010#16 [0x6C]);
      s.d = 0x0B#8 ∧ s.readReg 3 = 0x0011#16 ∧ s.peek 0x00FE#16 = 0x0B#8 ∧ s.trace = [.readKeypadLatch 0x0B#8]) ∧
    (let s := after (({ base with x := 2, keypadAnswers := [0x0B#8], cfg := ⟨4096, 0xFF, 3668⟩ }).writeReg 2 0x2000#16 |>.place 0x0010#16 [0x6C]);
      s.d = 0x0B#8 ∧ s.readReg 3 = 0x0011#16 ∧ s.trace = [.readKeypadLatch 0x0B#8]) := by decide

/-- V152 (R257). -/
theorem test_inp7 :
    (let s := after (({ base with x := 2, d := 0x11#8, cfg := ⟨65536, 0x00, 3668⟩ }).writeReg 2 0x00FE#16
      |>.place 0x0010#16 [0x6F]);
      s.d = 0x00#8 ∧ s.readReg 3 = 0x0011#16) := by decide

/-! ### The step, the host and the interface -/

/-- One word of every family, bit by bit from its encoding line: LDN 9, LDA 4, STR 12, INC 3, DEC 14, GLO 5, GHI 10,
PLO 6, PHI 15, XOR, SHRC, SMBI, BNZ, LBQ, LSIE, MARK, SEP 13, SEX 1, OUT 5, INP 2. -/
theorem test_decode_bits :
    [0b00001001, 0b01000100, 0b01011100, 0b00010011, 0b00101110, 0b10000101, 0b10011010].map dec =
      [.ldn9, .lda4, .str12, .inc3, .dec14, .glo5, .ghi10] ∧
    [0b10100110, 0b10111111, 0b11110011, 0b01110110, 0b01111111, 0b00111010, 0b11000001].map dec =
      [.plo6, .phi15, .xor, .shrc, .smbi 0xA5, .bnz 0xA5, .lbq 0xA53C] ∧
    [0b11001100, 0b01111001, 0b11011101, 0b11100001, 0b01100101, 0b01101010].map dec =
      [.lsie, .mark, .sep13, .sex1, .out5, .inp2] := by
  refine ⟨rfl, rfl, rfl⟩

/-- Bytes too few for an instruction are refused by name. -/
theorem test_decode_too_few : decode [] = .error .noOpcode ∧ decode [0xF8] = .error (.missingOperand 0xF8) ∧
    decode [0xC0, 0x12] = .error (.missingOperand 0xC0) ∧ decode [0xC0, 0x12, 0x34, 0x99] = .ok (.lbr 0x1234,
      [0x99]) := by
  refine ⟨rfl, rfl, rfl, rfl⟩

/-- The bits of a word as opcode_table.json numbers them: LBR 0x1234 is C0 12 34; bits at or above `nbits` are 0. -/
theorem test_decodeTableWord : decodeTableWord 24 0x3412C0 = some (.lbr 0x1234) ∧
    decodeTableWord 8 0x3412C0 = some (.lbr 0x0000) ∧ decodeTableWord 16 0xABF8 = some (.ldi 0xAB) ∧
    decodeTableWord 8 0x1A = some .inc10 := by
  refine ⟨rfl, rfl, rfl, rfl⟩

/-- The step after `withFetchWord` at reset runs that instruction: LDI 0xAB, R135. -/
theorem test_withFetchWord : (let s := after (State.reset.withFetchWord 16 0xABF8);
    s.d = 0xAB#8 ∧ s.readReg 0 = 0x0002#16 ∧ s.cyc = 2) := by decide

/-- V162, V163: the frame check publishes the page with a pointer while 256 bytes lie ahead, and none beyond. -/
theorem test_frame_page :
    (let s := after (({ base with cfg := ⟨65536, 0xFF, 30⟩, cyc := 28 } : State).writeReg 3 0xFEFF#16
        |>.place 0xFEFF#16 [0xC4]);
      s.result = 60 ∧ s.cyc = 0 ∧ s.trace = [.setDisplayPage 0xFF00#16 (some 0xFF00), .endOfFrame]) ∧
    (let s := after (({ base with cfg := ⟨65536, 0xFF, 30⟩, cyc := 28 } : State).writeReg 3 0xFF00#16
        |>.place 0xFF00#16 [0xC4]);
      s.result = 60 ∧ s.trace = [.setDisplayPage 0xFF01#16 none, .endOfFrame]) := by decide

/-- V171, V173: with no memory at all the opcode is `FLOAT_BUS`: 0xFF is SMI 0xFF, 0x00 is IDL. -/
theorem test_no_memory :
    (let s := after { base with cfg := ⟨0, 0xFF, 30⟩, cyc := 28, r := Vector.replicate 16 0 };
      s.d = 0x01#8 ∧ s.df = false ∧ s.trace = [.setDisplayPage 0x0002#16 none, .endOfFrame]) ∧
    (let s := after { base with cfg := ⟨0, 0x00, 30⟩, cyc := 28, r := Vector.replicate 16 0 };
      s.pc = 0x0000#16 ∧ s.trace = [.setDisplayPage 0x0000#16 none, .endOfFrame]) := by decide

/-- S2: out of bounds reads `FLOAT_BUS`, a write there is lost and does not alias into backed memory. -/
theorem test_out_of_bounds :
    (let s := ({ base with cfg := ⟨4096, 0x5A, 3668⟩ } : State).memWrite 0x1000 0x11;
      (s.memRead 0x1000).1 = 0x5A#8 ∧ (s.memRead 0x0000).1 = 0x00#8 ∧ (s.memRead 0xFFFF).1 = 0x5A#8) := by decide

/-- S7: the step-over target is the address after a SEP, and 0 elsewhere. -/
theorem test_stepOverTarget :
    ((base.writeReg 3 0x0200#16).place 0x0200#16 [0xD5]).stepOverTarget = 0x0201#16 ∧
    ((base.writeReg 3 0x0200#16).place 0x0200#16 [0xC4]).stepOverTarget = 0x0000#16 := by decide

/-- S8: an image shorter than memory leaves the rest of it as it was, a longer one is cut. -/
theorem test_loadImage :
    (let s := (({ base with cfg := ⟨4, 0xFF, 3668⟩ } : State).place 0 [0xA0, 0xA1, 0xA2, 0xA3]);
      (s.loadImage [1, 2, 3]).mem = [(0, 1), (1, 2), (2, 3), (3, 0xA3)] ∧
      (s.loadImage [0x10, 0x11, 0x12, 0x13, 0x14]).mem = [(0, 0x10), (1, 0x11), (2, 0x12), (3, 0x13)]) := by decide

/-- V175, V177: a loaded SEQ runs after reset; a reset after the load zeroes memory, so IDL runs. -/
theorem test_load_and_reset : (after (State.reset.loadImage [0x7B])).q = true ∧
    (after (State.reset.loadImage [0x7B]).hostReset).q = false ∧
    (after (State.reset.loadImage [0x7B]).hostReset).readReg 0 = 0x0000#16 := by decide

/-- C6, R301: `run(pc, pc)` performs a step before it looks at a breakpoint: here BR to itself, and it returns 0. -/
theorem test_debugRun : ((base.place 0x0010#16 [0x30, 0x10]).debugRun 0x0010 0x0010 2).map (fun r => (r.1, r.2.cyc)) =
    some (0, 2) := by decide

/-- R304: the snapshot shows the register the pointer selects. -/
theorem test_snapshot : base.snapshot.pc = 0x0010#16 ∧ base.snapshot.p = 3 := by decide

/-! ### Witnesses: the hypotheses of each obligation can be met -/

/-- Small parameters: a budget of 100 cycles, so that the interrupt point is 71. -/
def short : Config := { Config.illustrative with frameCycles := 100 }

theorem witness_LdnLoadsThroughRn : (1 : Nibble) ≠ 0 ∧ (15 : Nibble) ≠ 0 := by decide

theorem witness_OutSendsTheByteAtRx : (1 : PortNumber) ≠ 0 ∧ (4 : PortNumber) ≠ 0 ∧ (7 : PortNumber) ≠ 0 := by decide

theorem witness_InpStoresThePortByte : (1 : PortNumber) ≠ 0 ∧ (4 : PortNumber) ≠ 0 ∧ (7 : PortNumber) ≠ 0 := by decide

/-- The last byte of a page, and the byte before it. -/
theorem witness_ShortBranchStaysInThePageOfItsOperand :
    (let s := (base.writeReg 3 0x12FF#16).place 0x12FF#16 [0x30];
      s.opcode = 0x30#8 ∧ s.pc.toNat % 256 = 255) ∧
    (let s := (base.writeReg 3 0x12FE#16).place 0x12FE#16 [0x30];
      s.opcode = 0x30#8 ∧ s.pc.toNat % 256 = 254) := by decide

/-- The last address in bounds, and the first one out of bounds. -/
theorem witness_MemReadAfterMemWrite :
    (let s : State := { base with cfg := ⟨4096, 0x5A, 3668⟩ };
      (0x0FFF#16 : Word).toNat < s.cfg.memSize ∧ ¬(0x1000#16 : Word).toNat < s.cfg.memSize) := by decide

theorem witness_StoreIsSeenByTheNextFetch :
    (let s := base.place 0x0010#16 [0x53];
      s.opcode = 0b0101#4 ++ s.p ∧ s.inBounds (s.pc + 1) = true ∧ s.ie = false) := by decide

theorem witness_StepRunsTheDecodedInstruction :
    ∃ (s s' : State) (i : Instr) (rest : List Byte),
      decode [s.peek s.pc, s.peek (s.pc + 1), s.peek (s.pc + 2)] = .ok (i, rest) ∧
      exec i ({ s with ma := s.pc, mb := s.peek s.pc }.setPc (s.pc + 1)) = .next s' :=
  ⟨base.place 0x0010#16 [0xC4], _, .nop, [0, 0], rfl, rfl⟩

/-- The interrupt point itself, one cycle before it, and the flag off. -/
theorem witness_InterruptCheckDelivers :
    (let s := { base with cfg := short, cyc := 71, ie := true };
      s.cfg.frameCycles - 29 ≤ s.cyc ∧ s.ie = true) ∧
    (let s := { base with cfg := short, cyc := 70, ie := true };
      ¬(s.cfg.frameCycles - 29 ≤ s.cyc ∧ s.ie = true)) ∧
    (let s := { base with cfg := short, cyc := 71 };
      ¬(s.cfg.frameCycles - 29 ≤ s.cyc ∧ s.ie = true)) := by decide

theorem witness_InterruptWinsOverTheFrame :
    ∃ s u : State, s.cfg.wf = true ∧ exec s.instruction s.fetchOpcode = .next u ∧ u.ie = true ∧
      s.cfg.frameCycles - 29 ≤ u.cyc + 2 :=
  ⟨{ base with cfg := short, cyc := 69, ie := true }.place 0x0010#16 [0xC4], _, by decide, rfl, by decide, by decide⟩

theorem witness_EarlyRetIsInterruptedAtOnce :
    (let s := { base with cfg := short, cyc := 69 }.place 0x0010#16 [0x70];
      s.cfg.wf = true ∧ s.opcode = 0x70#8 ∧ s.cfg.frameCycles - 29 ≤ s.cyc + 2) := by decide

theorem witness_OnlyRetSetsIE :
    ∃ s s' : State, step s = .next s' ∧ s.ie = false ∧ s'.ie = true :=
  ⟨base.place 0x0010#16 [0x70], _, rfl, rfl, by decide⟩

/-- An instruction for each clause: SHR, SEQ, RET, SEP 5, SEX 5, MARK. -/
theorem witness_OnlyListedOpcodesChangeEachRegister :
    (afterExec .shr { base with d := 1 }).df ≠ base.df ∧ (afterExec .seq base).q ≠ base.q ∧
    (afterExec .ret base).ie ≠ base.ie ∧ (afterExec .sep5 base).p ≠ base.p ∧ (afterExec .sex5 base).x ≠ base.x ∧
    (afterExec .mark base).t ≠ base.t := by decide

theorem witness_OnlyStoresChangeMemory :
    (∃ s', exec .ldx base = .next s') ∧ opcodeI (opcodeOf .ldx) ≠ 5 ∧ Instr.ldx ≠ .stxd ∧ Instr.ldx ≠ .sav ∧
      Instr.ldx ≠ .mark ∧ ¬(0x69#8 ≤ opcodeOf .ldx ∧ opcodeOf .ldx ≤ 0x6F#8) :=
  ⟨⟨_, rfl⟩, by decide, by decide, by decide, by decide, by decide⟩

theorem witness_AtMostOneInterfaceCall : ∃ s', exec .out1 base = .next s' := ⟨_, rfl⟩

theorem witness_LatchesAreUnobservable : ∃ s', exec .ldx base = .next s' := ⟨_, rfl⟩

/-- A first reset and a later one; the address is the last one in bounds. -/
theorem witness_ResetZeroesEverything :
    ∃ s u v : State, u = State.resetWith s.cfg ∧ v = s.hostReset ∧ (0xFFFF#16 : Word).toNat < s.cfg.memSize :=
  ⟨base, _, _, rfl, rfl, by decide⟩

/-- The smallest parameters R6 and R7 allow, and the illustrative ones. -/
theorem witness_InvariantHoldsAtReset : Config.wf ⟨0, 0, 29⟩ = true ∧ Config.illustrative.wf = true := by decide

theorem witness_EveryStepKeepsTheInvariant :
    ∃ s s' : State, s.Inv ∧ step s = .next s' := ⟨base.place 0x0010#16 [0x53], _, by decide, rfl⟩

theorem witness_FrameCadenceWithoutInterrupts :
    (let s := { base with cfg := ⟨65536, 0xFF, 29⟩ };
      s.Inv ∧ s.ie = false ∧ avoidsRet 2 s = true) := by decide

theorem witness_FrameEndsFifteenStepsAfterDelivery :
    (let s := { base with cfg := short, cyc := 71 };
      s.Inv ∧ s.ie = false ∧ s.cyc = s.cfg.frameCycles - 29 ∧ avoidsRet 15 s = true) := by decide

theorem witness_IdlWithInterruptsOffHoldsForEver : State.reset.opcode = 0x00#8 ∧ State.reset.ie = false := by decide

end Tests

end Sys2Proof
end

section
/-! SUPPORT. An operand byte the decoder has read ahead: `Fetch()` and `MemRead` at `R[P]` give the byte there and
the state in which `fetchOperand` or `readOperand` took it, so what is known of those two holds of the reads. -/

namespace Sys2Proof.Machine

/-- R111: `Fetch()` is the fetch of the operand byte at `R[P]`. -/
theorem State.fetch_eq_fetchOperand (s : State) :
    s.fetch = (s.peek s.pc, s.fetchOperand (s.peek s.pc)) := rfl

/-- R14: a `MemRead` at `R[P]` is the read of the operand byte there. -/
theorem State.memRead_pc_eq_readOperand (s : State) :
    s.memRead s.pc = (s.peek s.pc, s.readOperand (s.peek s.pc)) := rfl

/-- The fetch of an operand byte moves no register but the program counter, whatever the byte. -/
theorem State.fetchOperand_sameRegistersBut (s : State) (k : Byte) : SameRegistersBut s.p s (s.fetchOperand k) := by
  intro m hm
  rw [State.readReg_fetchOperand, if_neg hm]

end Sys2Proof.Machine
end

section
/-! THEOREMS. The fetch of operand bytes. -/

namespace Sys2Proof.Proofs
open Sys2Proof.Machine

/-- Settles O43: `Fetch()` is `fetchOperand` of the byte at `R[P]`, whose program counter and register frame are
known for every byte. -/
theorem operandFetchIsFetch : Obligations.OperandFetchIsFetch := by
  intro s
  have hfetch : s.fetch = (s.peek s.pc, s.fetchOperand (s.peek s.pc)) := s.fetch_eq_fetchOperand
  refine ⟨hfetch, s.memRead_pc_eq_readOperand, ?_, ?_⟩ <;> rw [hfetch]
  · exact s.pc_fetchOperand _
  · exact s.fetchOperand_sameRegistersBut _

end Sys2Proof.Proofs
end

section
/-! SUPPORT. What each instruction does, by shape: the shared operation its meaning calls. Two hundred and
fifty-six instructions have thirty-odd meanings, so that a fact of every instruction is proved on the meanings. -/

namespace Sys2Proof.Machine

/-- The state with other values in the bus latches (R42). -/
def State.withLatches (s : State) (a : Word) (b : Byte) : State := { s with ma := a, mb := b }

/-- A condition that does not read the latches. -/
def IgnoresLatches (c : State → Bool) : Prop := ∀ s a b, c (s.withLatches a b) = c s

/-- The opcodes that R29 lists: the arithmetic instructions and the shifts. -/
def dfOpcodes : List Byte :=
  [0xF4#8, 0xFC, 0x74, 0x7C, 0xF5, 0xFD, 0x75, 0x7D, 0xF7, 0xFF, 0x77, 0x7F, 0xF6, 0x76, 0xFE, 0x7E]

/-- The meanings, each with what its instructions have in common: an instruction is one of the thirty-odd shared
operations, at a register, port, operand or condition of its own. `exec_meaning` ties this to `exec`. -/
inductive Meaning : Instr → (State → Result) → Prop
  | idl : Meaning .idl execIdl
  | noOperation {i : Instr} : Meaning i fun s => .next s
  | loadN {i : Instr} (n : Nibble) : Meaning i (loadN n)
  | loadAdvance {i : Instr} (n : Nibble) : Meaning i (loadAdvance n)
  | ldx : Meaning .ldx execLdx
  | ldxa : Meaning .ldxa execLdxa
  | ldi (k : Byte) : Meaning (.ldi k) (execLdi k)
  | storeN {i : Instr} (n : Nibble) (hi : opcodeI (opcodeOf i) = 5) : Meaning i (storeN n)
  | stxd : Meaning .stxd execStxd
  | incrementN {i : Instr} (n : Nibble) : Meaning i (incrementN n)
  | decrementN {i : Instr} (n : Nibble) : Meaning i (decrementN n)
  | irx : Meaning .irx execIrx
  | getLow {i : Instr} (n : Nibble) : Meaning i (getLow n)
  | getHigh {i : Instr} (n : Nibble) : Meaning i (getHigh n)
  | putLow {i : Instr} (n : Nibble) : Meaning i (putLow n)
  | putHigh {i : Instr} (n : Nibble) : Meaning i (putHigh n)
  | logicX {i : Instr} (f : Byte → Byte → Byte) : Meaning i fun s => logic s.viaX f
  | logicImmediate {i : Instr} (f : Byte → Byte → Byte) (k : Byte) : Meaning i fun s => logic (s.immediate k) f
  | shift {i : Instr} (f : Byte → Bool → Byte × Bool) (c : State → Bool) (hc : IgnoresLatches c)
      (hi : opcodeOf i ∈ dfOpcodes) : Meaning i fun s => shift f (c s) s
  | arithmeticX {i : Instr} (f : Byte → Byte → Bool → Byte × Bool) (hi : opcodeOf i ∈ dfOpcodes) :
      Meaning i fun s => arithmetic s.viaX f
  | arithmeticImmediate {i : Instr} (f : Byte → Byte → Bool → Byte × Bool) (k : Byte)
      (hi : opcodeOf i ∈ dfOpcodes) : Meaning i fun s => arithmetic (s.immediate k) f
  | shortBranch {i : Instr} (c : State → Bool) (a : Byte) (hc : IgnoresLatches c) :
      Meaning i fun s => shortBranch (c s) a s
  | flagBranch {i : Instr} (f : ExtFlag) (level : Bool) (a : Byte) : Meaning i (flagBranch f level a)
  | longBranch {i : Instr} (c : State → Bool) (target : Word) (hc : IgnoresLatches c) :
      Meaning i fun s => longBranch (c s) target s
  | longSkip {i : Instr} (c : State → Bool) (hc : IgnoresLatches c) : Meaning i fun s => longSkip (c s) s
  | seq : Meaning .seq execSeq
  | req : Meaning .req execReq
  | setP {i : Instr} (n : Nibble) (hi : opcodeI (opcodeOf i) = 0xD) : Meaning i (setP n)
  | setX {i : Instr} (n : Nibble) (hi : opcodeI (opcodeOf i) = 0xE) : Meaning i (setX n)
  | ret : Meaning .ret execRet
  | dis : Meaning .dis execDis
  | sav : Meaning .sav execSav
  | mark : Meaning .mark execMark
  | output {i : Instr} (n : PortNumber) : Meaning i (output n)
  | input {i : Instr} (n : PortNumber) (hi : 0x69#8 ≤ opcodeOf i ∧ opcodeOf i ≤ 0x6F#8) : Meaning i (input n)

/-- `exec` gives every instruction its meaning: the one split over the constructors of `Instr`. -/
theorem exec_meaning (i : Instr) : Meaning i (exec i) := by
  cases i
  case idl => exact .idl
  case nop | ill68 => exact .noOperation
  case ldn1 | ldn2 | ldn3 | ldn4 | ldn5 | ldn6 | ldn7 | ldn8 | ldn9 | ldn10 | ldn11 | ldn12 | ldn13 |
      ldn14 | ldn15 => exact .loadN _
  case lda0 | lda1 | lda2 | lda3 | lda4 | lda5 | lda6 | lda7 | lda8 | lda9 | lda10 | lda11 | lda12 | lda13 |
      lda14 | lda15 => exact .loadAdvance _
  case ldx => exact .ldx
  case ldxa => exact .ldxa
  case ldi => exact .ldi _
  case str0 | str1 | str2 | str3 | str4 | str5 | str6 | str7 | str8 | str9 | str10 | str11 | str12 | str13 |
      str14 | str15 => exact .storeN _ rfl
  case stxd => exact .stxd
  case inc0 | inc1 | inc2 | inc3 | inc4 | inc5 | inc6 | inc7 | inc8 | inc9 | inc10 | inc11 | inc12 | inc13 |
      inc14 | inc15 => exact .incrementN _
  case dec0 | dec1 | dec2 | dec3 | dec4 | dec5 | dec6 | dec7 | dec8 | dec9 | dec10 | dec11 | dec12 | dec13 |
      dec14 | dec15 => exact .decrementN _
  case irx => exact .irx
  case glo0 | glo1 | glo2 | glo3 | glo4 | glo5 | glo6 | glo7 | glo8 | glo9 | glo10 | glo11 | glo12 | glo13 |
      glo14 | glo15 => exact .getLow _
  case ghi0 | ghi1 | ghi2 | ghi3 | ghi4 | ghi5 | ghi6 | ghi7 | ghi8 | ghi9 | ghi10 | ghi11 | ghi12 | ghi13 |
      ghi14 | ghi15 => exact .getHigh _
  case plo0 | plo1 | plo2 | plo3 | plo4 | plo5 | plo6 | plo7 | plo8 | plo9 | plo10 | plo11 | plo12 | plo13 |
      plo14 | plo15 => exact .putLow _
  case phi0 | phi1 | phi2 | phi3 | phi4 | phi5 | phi6 | phi7 | phi8 | phi9 | phi10 | phi11 | phi12 | phi13 |
      phi14 | phi15 => exact .putHigh _
  case or | xor | and => exact .logicX _
  case ori | xri | ani => exact .logicImmediate _ _
  case shr | shrc | shl | shlc => exact .shift _ _ (fun _ _ _ => rfl) (by decide)
  case add | adc | sd | sdb | sm | smb => exact .arithmeticX _ (by decide)
  case adi | adci | sdi | sdbi | smi | smbi => exact .arithmeticImmediate _ _ (by simp [opcodeOf, encode, dfOpcodes])
  case br | bq | bz | bdf | skp | bnq | bnz | bnf => exact .shortBranch _ _ fun _ _ _ => rfl
  case b1 | b2 | b3 | b4 | bn1 | bn2 | bn3 | bn4 => exact .flagBranch _ _ _
  case lbr | lbq | lbz | lbdf | lbnq | lbnz | lbnf => exact .longBranch _ _ fun _ _ _ => rfl
  case lskp | lsnq | lsnz | lsnf | lsq | lsz | lsdf | lsie => exact .longSkip _ fun _ _ _ => rfl
  case seq => exact .seq
  case req => exact .req
  case sep0 | sep1 | sep2 | sep3 | sep4 | sep5 | sep6 | sep7 | sep8 | sep9 | sep10 | sep11 | sep12 | sep13 |
      sep14 | sep15 => exact .setP _ rfl
  case sex0 | sex1 | sex2 | sex3 | sex4 | sex5 | sex6 | sex7 | sex8 | sex9 | sex10 | sex11 | sex12 | sex13 |
      sex14 | sex15 => exact .setX _ rfl
  case ret => exact .ret
  case dis => exact .dis
  case sav => exact .sav
  case mark => exact .mark
  case out1 | out2 | out3 | out4 | out5 | out6 | out7 => exact .output _
  case inp1 | inp2 | inp3 | inp4 | inp5 | inp6 | inp7 => exact .input _ (by decide)

/-- A property of the 256 bytes is proved on the 256 literals. -/
theorem forall_byte {P : Byte → Prop} (h : ∀ k : Fin 256, P (BitVec.ofFin k)) (b : Byte) : P b := h b.toFin

/-- The instruction the decoder selects has the opcode it was selected by, whatever bytes follow (R90, R97). -/
theorem opcodeOf_decodeBytes (op b1 b2 : Byte) : opcodeOf (decodeBytes op b1 b2) = op := by
  revert op; exact forall_byte fun k => by fin_cases k <;> rfl

end Sys2Proof.Machine
end

section
/-! SUPPORT. What phase 2 can change of what the machine keeps beside its registers, `D`, the latches and its talk
with the Hardware Interface: one lemma over the meanings, from which the claims about single registers, about memory
and about the invariant are read off. -/

namespace Sys2Proof.Machine

/-- The two states agree in the flags, the pointers, `T`, `CYC`, the parameters and memory. -/
structure KeepsControl (s s' : State) : Prop where
  df : s'.df = s.df := by rfl
  q : s'.q = s.q := by rfl
  ie : s'.ie = s.ie := by rfl
  p : s'.p = s.p := by rfl
  x : s'.x = s.x := by rfl
  t : s'.t = s.t := by rfl
  cyc : s'.cyc = s.cyc := by rfl
  cfg : s'.cfg = s.cfg := by rfl
  mem : s'.mem = s.mem := by rfl

/-- Reading a port talks to the Hardware Interface and does nothing else. -/
theorem KeepsControl.portIn (s : State) (n : PortNumber) : KeepsControl s (s.portIn n).2 := by
  unfold State.portIn
  split_ifs <;> exact {}

/-- Writing a port talks to the Hardware Interface and does nothing else. -/
theorem KeepsControl.portOut (s : State) (n : PortNumber) (v : Byte) : KeepsControl s (s.portOut n v) := by
  rw [State.portOut_eq]; exact {}

/-- Sampling a flag talks to the Hardware Interface at most. -/
theorem KeepsControl.ef (s : State) (f : ExtFlag) : KeepsControl s (s.ef f).2 := by
  cases f <;> exact {}

theorem KeepsControl.trans {s t u : State} (h : KeepsControl s t) (k : KeepsControl t u) : KeepsControl s u where
  df := k.df.trans h.df
  q := k.q.trans h.q
  ie := k.ie.trans h.ie
  p := k.p.trans h.p
  x := k.x.trans h.x
  t := k.t.trans h.t
  cyc := k.cyc.trans h.cyc
  cfg := k.cfg.trans h.cfg
  mem := k.mem.trans h.mem

/-- A store at the same place in two states that agree leaves states that agree. -/
theorem KeepsControl.poke {s t : State} (k : KeepsControl s t) (a : Word) (v : Byte) :
    KeepsControl (s.poke a v) (t.poke a v) :=
  { k with mem := by simp [State.poke, State.inBounds, k.mem, k.cfg] }

/-- The instructions that store one byte and write nothing else that `KeepsControl` names. MARK stores one too, but
writes `T` and `X` besides, and has its own case in `Change`. -/
def IsStore (i : Instr) : Prop :=
  opcodeI (opcodeOf i) = 5 ∨ i = .stxd ∨ i = .sav ∨ 0x69#8 ≤ opcodeOf i ∧ opcodeOf i ≤ 0x6F#8

/-- What an instruction can change of what `KeepsControl` names, with the instructions that can. -/
inductive Change (i : Instr) (s s' : State) : Prop
  | nothing (k : KeepsControl s s')
  | df (b : Bool) (hi : opcodeOf i ∈ dfOpcodes) (k : KeepsControl { s with df := b } s')
  | q (b : Bool) (hi : i = .seq ∨ i = .req) (k : KeepsControl { s with q := b } s')
  | p (n : Nibble) (hi : opcodeI (opcodeOf i) = 0xD) (k : KeepsControl { s with p := n } s')
  | x (n : Nibble) (hi : opcodeI (opcodeOf i) = 0xE) (k : KeepsControl { s with x := n } s')
  | back (x p : Nibble) (ie : Bool) (hi : i = .ret ∧ ie = true ∨ i = .dis ∧ ie = false)
      (k : KeepsControl { s with x := x, p := p, ie := ie } s')
  | memory (a : Word) (v : Byte) (hi : IsStore i) (k : KeepsControl (s.poke a v) s')
  | mark (x : Nibble) (t : Byte) (a : Word) (v : Byte) (hi : i = .mark)
      (k : KeepsControl { s.poke a v with x := x, t := t } s')

/-- Every meaning changes no more than `Change` lets its instructions change. -/
theorem Meaning.change {i : Instr} {f : State → Result} {s s' : State} (hf : Meaning i f) (h : f s = .next s') :
    Change i s s' := by
  cases hf with
  | idl =>
    cases h
    split_ifs <;> exact .nothing {}
  | noOperation | ldx | ldxa | ldi | irx => cases h; exact .nothing {}
  | loadN => rw [loadN_next h]; exact .nothing {}
  | loadAdvance => rw [loadAdvance_next h]; exact .nothing {}
  | incrementN => rw [incrementN_next h]; exact .nothing {}
  | decrementN => rw [decrementN_next h]; exact .nothing {}
  | getLow => rw [getLow_next h]; exact .nothing {}
  | getHigh => rw [getHigh_next h]; exact .nothing {}
  | putLow => rw [putLow_next h]; exact .nothing {}
  | putHigh => rw [putHigh_next h]; exact .nothing {}
  | logicX | logicImmediate => rw [logic_next h]; exact .nothing {}
  | shift f c _ hi => rw [shift_next h]; exact .df _ hi {}
  | arithmeticX _ hi | arithmeticImmediate _ _ hi => rw [arithmetic_next h]; exact .df _ hi {}
  | shortBranch => rw [shortBranch_next h]; exact .nothing {}
  | flagBranch f level a => rw [shortBranch_next (flagBranch_next h)]; exact .nothing (.trans (.ef s f) {})
  | longBranch => rw [longBranch_next h]; exact .nothing {}
  | longSkip =>
    rw [longSkip_next h]
    split_ifs <;> exact .nothing {}
  | seq => cases h; exact .q true (.inl rfl) {}
  | req => cases h; exact .q false (.inr rfl) {}
  | setP n hi => rw [setP_next h]; exact .p n hi {}
  | setX n hi => rw [setX_next h]; exact .x n hi {}
  | ret => cases h; exact .back _ _ true (.inl ⟨rfl, rfl⟩) {}
  | dis => cases h; exact .back _ _ false (.inr ⟨rfl, rfl⟩) {}
  | storeN n hi => rw [storeN_next h]; exact .memory (s.readReg n) s.d (.inl hi) {}
  | stxd => cases h; exact .memory s.index s.d (.inr (.inl rfl)) {}
  | sav => cases h; exact .memory s.index s.t (.inr (.inr (.inl rfl))) {}
  | mark => cases h; exact .mark s.p (packXP s.x s.p) (s.readReg 2) (packXP s.x s.p) rfl {}
  | output n =>
    rw [output_next h]
    exact .nothing (.trans (.trans (t := { s with ma := s.index, mb := s.peek s.index }) {} (.portOut _ n _)) {})
  | input n hi =>
    rw [input_next h]
    exact .memory s.index (s.portIn n).1 (.inr (.inr (.inr hi))) (.trans (.poke (.portIn s n) _ _) {})

/-- No instruction changes the counter. -/
theorem Change.cyc_eq {i : Instr} {s s' : State} (c : Change i s s') : s'.cyc = s.cyc := by
  cases c with
  | nothing k | df _ _ k | q _ _ k | p _ _ k | x _ _ k | back _ _ _ _ k | memory _ _ _ k | mark _ _ _ _ _ k =>
    exact k.cyc

/-- No instruction changes the parameters. -/
theorem Change.cfg_eq {i : Instr} {s s' : State} (c : Change i s s') : s'.cfg = s.cfg := by
  cases c with
  | nothing k | df _ _ k | q _ _ k | p _ _ k | x _ _ k | back _ _ _ _ k | memory _ _ _ k | mark _ _ _ _ _ k =>
    exact k.cfg

/-- Memory is as it was, or one byte of it was stored by an instruction that stores. -/
theorem Change.mem_eq {i : Instr} {s s' : State} (c : Change i s s') :
    s'.mem = s.mem ∨ (IsStore i ∨ i = .mark) ∧ ∃ a v, s'.mem = (s.poke a v).mem := by
  cases c with
  | nothing k | df _ _ k | q _ _ k | p _ _ k | x _ _ k | back _ _ _ _ k => exact .inl k.mem
  | memory a v hi k => exact .inr ⟨.inl hi, a, v, k.mem⟩
  | mark _ _ a v hi k => exact .inr ⟨.inr hi, a, v, k.mem⟩

/-- Only RET sets `IE`. -/
theorem Change.eq_ret {i : Instr} {s s' : State} (c : Change i s s') (h : s.ie = false) (h' : s'.ie = true) :
    i = .ret := by
  cases c with
  | nothing k | df _ _ k | q _ _ k | p _ _ k | x _ _ k | memory _ _ _ k | mark _ _ _ _ _ k =>
    have hie : s'.ie = s.ie := k.ie
    simp [hie, h] at h'
  | back _ _ ie hi k =>
    have hie : ie = true := k.ie.symm.trans h'
    simpa [hie] using hi

/-- What an instruction executed to a next state can have changed. -/
theorem exec_change {i : Instr} {s s' : State} (h : exec i s = .next s') : Change i s s' :=
  (exec_meaning i).change h

end Sys2Proof.Machine
end

section
/-! SUPPORT. The latches: no meaning reads them, and a step overwrites them before it could. -/

namespace Sys2Proof.Machine

/-- With other values in the latches, the operation leaves the same state but for the latches. -/
def LatchBlind (f : State → Result) : Prop :=
  ∀ (s s' : State) (a : Word) (b : Byte), f s = .next s' →
    ∃ u, f (s.withLatches a b) = .next u ∧ u.withLatches s'.ma s'.mb = s'

/-- An operation that answers `g s` is blind to the latches when `g` is. -/
theorem LatchBlind.of_next {g : State → State}
    (hg : ∀ s a b, (g (s.withLatches a b)).withLatches (g s).ma (g s).mb = g s) :
    LatchBlind fun s => .next (g s) := by
  rintro s s' a b ⟨⟩
  exact ⟨_, rfl, hg s a b⟩

/-- What IDL asks (R235) is asked of `CYC` and `IE` alone. -/
theorem interruptWillCome_withLatches : IgnoresLatches interruptWillCome := fun _ _ _ => rfl

/-- R42: every meaning is blind to the latches. The conditions and the conversations with the Hardware Interface,
on which a meaning splits, do not read them; elsewhere the two answers are built from the same fields. -/
theorem Meaning.latchBlind {i : Instr} {f : State → Result} (hf : Meaning i f) : LatchBlind f := by
  cases hf with
  | idl =>
    refine .of_next fun s a b => ?_
    rw [interruptWillCome_withLatches]
    split_ifs <;> rfl
  | shift f c hc => exact .of_next fun s a b => by rw [hc]; rfl
  | shortBranch c k hc => exact .of_next fun s a b => by rw [hc]; rfl
  | longBranch c target hc => exact .of_next fun s a b => by rw [hc]; split_ifs <;> rfl
  | longSkip c hc => exact .of_next fun s a b => by rw [hc]; split_ifs <;> rfl
  | flagBranch f => cases f <;> exact .of_next fun _ _ _ => rfl
  | output n =>
    refine .of_next fun s a b => ?_
    simp only [State.portOut_eq]
    rfl
  | input n =>
    refine .of_next fun s a b => ?_
    simp only [State.portIn]
    split_ifs <;> rfl
  | _ => exact .of_next fun _ _ _ => rfl

/-- A step begins with an access of its own (R111), which overwrites both latches. -/
theorem step_withLatches (s : State) (a : Word) (b : Byte) : step (s.withLatches a b) = step s := rfl

end Sys2Proof.Machine
end

section
/-! SUPPORT. The phases after the instruction and the host's operations: what they leave of `IE`, `CYC`, the
parameters and memory. -/

namespace Sys2Proof.Machine

@[simp] theorem State.interruptCheck_cfg (s : State) : s.interruptCheck.cfg = s.cfg := by
  obtain ⟨_, _, h⟩ | ⟨_, h⟩ := s.interruptCheck_cases <;> rw [h]
  rfl

@[simp] theorem State.interruptCheck_mem (s : State) : s.interruptCheck.mem = s.mem := by
  obtain ⟨_, _, h⟩ | ⟨_, h⟩ := s.interruptCheck_cases <;> rw [h]
  rfl

@[simp] theorem State.frameCheck_cfg (s : State) : s.frameCheck.cfg = s.cfg := by
  obtain ⟨_, h⟩ | ⟨_, h⟩ := s.frameCheck_cases <;> rw [h]
  rfl

@[simp] theorem State.frameCheck_mem (s : State) : s.frameCheck.mem = s.mem := by
  obtain ⟨_, h⟩ | ⟨_, h⟩ := s.frameCheck_cases <;> rw [h]
  rfl

@[simp] theorem State.frameCheck_ie (s : State) : s.frameCheck.ie = s.ie := by
  obtain ⟨_, h⟩ | ⟨_, h⟩ := s.frameCheck_cases <;> rw [h]
  rfl

/-- The interrupt check only ever clears `IE`. -/
theorem State.ie_of_interruptCheck {s : State} (h : s.interruptCheck.ie = true) : s.ie = true := by
  obtain ⟨_, hie, _⟩ | ⟨_, hs⟩ := s.interruptCheck_cases
  · exact hie
  · rwa [hs] at h

/-- Nothing after phase 2 sets `IE`. -/
theorem State.ie_of_afterInstruction {s : State} (h : s.afterInstruction.ie = true) : s.ie = true :=
  State.ie_of_interruptCheck (s := s.advanceCycles) (by simpa [State.afterInstruction] using h)

/-- R7: the budget leaves room for the interrupt lead. -/
theorem Config.le_frameCycles_of_wf {c : Config} (h : c.wf = true) : 29 ≤ c.frameCycles := by
  simp only [Config.wf, Config.frameCyclesOk, Bool.and_eq_true, decide_eq_true_eq] at h
  exact h.2

/-- The interrupt check never moves the counter up: it pins it back to the interrupt point, which it has reached. -/
theorem State.interruptCheck_cyc_le (s : State) : s.interruptCheck.cyc ≤ s.cyc := by
  obtain ⟨hreached, _, h⟩ | ⟨_, h⟩ := s.interruptCheck_cases <;> rw [h]
  exact hreached

/-- A counter less than one frame over the budget is below it after the frame check. -/
theorem State.frameCheck_cyc_lt {s : State} (h : s.cyc < s.cfg.frameCycles + s.cfg.frameCycles) :
    s.frameCheck.cyc < s.cfg.frameCycles := by
  obtain ⟨_, hs⟩ | ⟨hlt, hs⟩ := s.frameCheck_cases <;> rw [hs]
  · rw [State.completeFrame_cyc]; omega
  · exact hlt

/-- R117: the phases after an instruction bring the counter back below the budget. -/
theorem State.afterInstruction_cyc_lt {s : State} (hc : s.cfg.wf = true) (h : s.cyc < s.cfg.frameCycles) :
    s.afterInstruction.cyc < s.cfg.frameCycles := by
  have hlead : 29 ≤ s.cfg.frameCycles := Config.le_frameCycles_of_wf hc
  have hcheck : s.advanceCycles.interruptCheck.cyc ≤ s.cyc + 2 := s.advanceCycles.interruptCheck_cyc_le
  have hframe := State.frameCheck_cyc_lt (s := s.advanceCycles.interruptCheck)
  simp only [State.interruptCheck_cfg, State.advanceCycles_cfg] at hframe
  exact hframe (by omega)

/-- The phases after an instruction keep the invariant. -/
theorem State.Inv.afterInstruction {s : State} (h : s.Inv) : s.afterInstruction.Inv := by
  obtain ⟨hcfg, hcyc, hwf, hbound⟩ := h
  have hc : s.afterInstruction.cfg = s.cfg := by simp [State.afterInstruction]
  have hm : s.afterInstruction.mem = s.mem := by simp [State.afterInstruction]
  exact ⟨hc ▸ hcfg, hc ▸ State.afterInstruction_cyc_lt hcfg hcyc, hm ▸ hwf, by rw [hm, hc]; exact hbound⟩

/-- The opcode fetch keeps the invariant. -/
theorem State.Inv.fetchOpcode {s : State} (h : s.Inv) : s.fetchOpcode.Inv := h.of_same rfl rfl rfl

/-- R40, R61: an instruction keeps the invariant, since it leaves `CYC` and the parameters alone and changes memory
by a store at most. -/
theorem Change.inv {i : Instr} {s s' : State} (c : Change i s s') (h : s.Inv) : s'.Inv := by
  obtain hm | ⟨_, a, v, hm⟩ := c.mem_eq
  · exact h.of_same c.cfg_eq c.cyc_eq hm
  · exact (h.memWrite a v).of_same c.cfg_eq c.cyc_eq hm

/-- The reset of R50 meets the invariant whatever allowed parameters it has. -/
theorem State.resetWith_inv {c : Config} (h : c.wf = true) : (State.resetWith c).Inv := by
  have hlead := Config.le_frameCycles_of_wf h
  have hcyc : 0 < c.frameCycles := by omega
  exact ⟨h, hcyc, Memory.wf_nil, by simp [State.resetWith]⟩

/-- R310: a reset by the host keeps the invariant. -/
theorem State.Inv.hostReset {s : State} (h : s.Inv) : s.hostReset.Inv :=
  (State.resetWith_inv h.1).of_same rfl rfl rfl

/-- R85: loading an image keeps the invariant. -/
theorem State.Inv.loadImage {s : State} (h : s.Inv) (bytes : List Byte) : (s.loadImage bytes).Inv := by
  obtain ⟨hcfg, hcyc, hwf, hbound⟩ := h
  exact ⟨hcfg, hcyc, Memory.load_wf bytes hwf 0, Memory.load_bounded bytes hbound 0⟩

end Sys2Proof.Machine
end

section
/-! THEOREMS. What only some instructions change, the latches, and the invariant. -/

namespace Sys2Proof.Proofs
open Sys2Proof.Machine

/-- Settles O57: the opcode fetch, the instruction and the phases after it keep the invariant, one after the other. -/
theorem everyStepKeepsTheInvariant : Obligations.EveryStepKeepsTheInvariant := by
  refine fun s hinv => ⟨fun s' h => ?_, hinv.hostReset, hinv.loadImage⟩
  obtain ⟨u, hu, rfl⟩ := step_next h
  have hc : Change _ s.fetchOpcode u := exec_change hu
  refine ⟨(hc.inv hinv.fetchOpcode).afterInstruction, ?_⟩
  simp [State.afterInstruction, hc.cfg_eq]

/-- Settles O56: `CYC` is 0 and memory lists nothing, while R7 makes the budget positive. -/
theorem invariantHoldsAtReset : Obligations.InvariantHoldsAtReset := fun _ => State.resetWith_inv

/-- Settles O53: every instruction has a meaning, and every meaning is blind to the latches. -/
theorem latchesAreUnobservable : Obligations.LatchesAreUnobservable := fun i s s' a b h =>
  ⟨(exec_meaning i).latchBlind s s' a b h, step_withLatches s a b⟩

/-- Settles O50, by what an instruction can change. -/
theorem onlyListedOpcodesChangeEachRegister : Obligations.OnlyListedOpcodesChangeEachRegister := by
  intro i s s' h
  cases exec_change h with
  | nothing k => cases k; simp [*]
  | df _ hi k => exact ⟨fun _ => hi, by cases k; simp [*]⟩
  | q _ hi k => cases k; simp [*]
  | p _ hi k => cases k; simp [*]
  | x _ hi k => cases k; simp [*]
  | back _ _ _ hi k =>
    cases k
    obtain ⟨rfl, -⟩ | ⟨rfl, -⟩ := hi <;> simp [*]
  | memory _ _ _ k => cases k; simp [*]
  | mark _ _ _ _ hi k => cases k; simp [*]

/-- Settles O51: an instruction that changes memory stores a byte of it, and is then one of those left out. -/
theorem onlyStoresChangeMemory : Obligations.OnlyStoresChangeMemory := by
  intro i s s' h hstr hstxd hsav hmark hinp
  have hc : Change i s s' := exec_change h
  have hmem : s'.mem = s.mem := by
    obtain hm | ⟨(hstore | hstore | hstore | hstore) | hstore, _⟩ := hc.mem_eq
    · exact hm
    · exact absurd hstore hstr
    · exact absurd hstore hstxd
    · exact absurd hstore hsav
    · exact absurd hstore hinp
    · exact absurd hstore hmark
  exact ⟨hmem, fun a => by simp [State.peek, State.inBounds, hmem, hc.cfg_eq]⟩

/-- Settles O49: nothing after phase 2 sets `IE`, in phase 2 only RET does, and only opcode 0x70 decodes to RET. -/
theorem onlyRetSetsIE : Obligations.OnlyRetSetsIE := by
  intro s s' h hoff hon
  obtain ⟨u, hu, rfl⟩ := step_next h
  have hret : s.instruction = .ret :=
    (exec_change hu).eq_ret (by simpa using hoff) (State.ie_of_afterInstruction hon)
  calc s.opcode = opcodeOf s.instruction := (opcodeOf_decodeBytes ..).symm
    _ = 0x70#8 := by rw [hret]; rfl

end Sys2Proof.Proofs
end

section
/-! SUPPORT. Memory as a step sees it: the byte of an access, a loaded image read back, and what the phases after the
instruction leave of memory and of the program counter. -/

namespace Sys2Proof.Machine

/-- The byte a `MemRead` returns (R62). -/
@[simp] theorem State.memRead_fst (s : State) (a : Word) : (s.memRead a).1 = s.peek a := rfl

theorem State.inBounds_iff (s : State) (a : Word) : s.inBounds a = true ↔ a.toNat < s.cfg.memSize :=
  decide_eq_true_iff

theorem State.peek_of_inBounds {s : State} {a : Word} (h : a.toNat < s.cfg.memSize) :
    s.peek a = s.mem.read a.toNat := if_pos ((s.inBounds_iff a).mpr h)

theorem State.peek_of_not_inBounds {s : State} {a : Word} (h : ¬a.toNat < s.cfg.memSize) :
    s.peek a = s.cfg.floatBus := if_neg (mt (s.inBounds_iff a).mp h)

/-- What an address reads as depends on memory and the parameters alone. -/
theorem State.peek_congr {s t : State} (hm : t.mem = s.mem) (hc : t.cfg = s.cfg) (a : Word) : t.peek a = s.peek a := by
  rw [State.peek, State.inBounds, hm, hc]; rfl

/-- An image loaded at `a` reads as its own bytes from `a` on, as far as it and the memory reach. By induction
on the image: what follows its first byte is loaded above `a`, and so leaves that byte as written. -/
theorem Memory.read_load (size : Nat) (m : Memory) (a b : Nat) (bytes : List Byte) :
    (Memory.load size m a bytes).read b =
      if a ≤ b ∧ b < size ∧ b < a + bytes.length then bytes.getD (b - a) 0 else m.read b := by
  induction bytes generalizing m a with
  | nil => rw [if_neg (by simp only [List.length_nil]; omega)]; rfl
  | cons v bytes ih =>
    have hfirst : (if a < size then m.write a v else m).read b = if b = a ∧ a < size then v else m.read b := by
      by_cases ha : a < size <;> simp [ha, Memory.read_write]
    rw [Memory.load, ih, hfirst]
    obtain hlt | rfl | hgt := lt_trichotomy b a
    · rw [if_neg (by omega), if_neg (by omega), if_neg (by omega)]
    · simp
    · have hidx : b - a = b - (a + 1) + 1 := by omega
      have hlen : b < a + 1 + bytes.length ↔ b < a + (v :: bytes).length := by
        rw [List.length_cons]; omega
      simp only [hidx, hlen, hgt, hgt.le, hgt.ne', Nat.succ_le_iff, List.getD_cons_succ, true_and, false_and, if_false]

/-- The interrupt check does nothing while `IE` is 0 (R114). -/
theorem State.interruptCheck_of_ie {s : State} (h : s.ie = false) : s.interruptCheck = s := by
  simp [State.interruptCheck, State.interruptTaken, h]

@[simp] theorem State.frameCheck_pc (s : State) : s.frameCheck.pc = s.pc := by
  obtain ⟨_, h⟩ | ⟨_, h⟩ := s.frameCheck_cases
  · rw [h, State.completeFrame_pc]
  · rw [h]; rfl

/-- The phases after an instruction change no byte of memory. -/
@[simp] theorem State.afterInstruction_peek (s : State) (a : Word) : s.afterInstruction.peek a = s.peek a :=
  State.peek_congr (by simp [State.afterInstruction]) (by simp [State.afterInstruction]) a

/-- Without an interrupt, the phases after an instruction leave the program counter where it was. -/
theorem State.afterInstruction_pc {s : State} (h : s.ie = false) : s.afterInstruction.pc = s.pc := by
  rw [State.afterInstruction, State.interruptCheck_of_ie (s := s.advanceCycles) h, State.frameCheck_pc,
    State.advanceCycles_pc]

/-- Opcode 0x5N is STR N, whatever bytes follow. -/
theorem decodeBytes_str (n : Nibble) (b1 b2 : Byte) : decodeBytes (0b0101#4 ++ n) b1 b2 = Instr.strOf n := by
  revert n; exact forall_nibble fun k => by fin_cases k <;> rfl

/-- A step at STR N (R136): the store, with the opcode fetched before it and the other phases after it. -/
theorem step_str {s : State} {n : Nibble} (h : s.opcode = 0b0101#4 ++ n) :
    step s = .next (s.fetchOpcode.memWrite (s.fetchOpcode.readReg n) s.d).afterInstruction := by
  have hinstr : s.instruction = Instr.strOf n := by rw [State.instruction, h, decodeBytes_str]
  rw [step, hinstr, exec_strOf]; rfl

end Sys2Proof.Machine
end

section
/-! THEOREMS. Memory: a write read back, a store fetched as an opcode, an image loaded. -/

namespace Sys2Proof.Proofs
open Sys2Proof.Machine

/-- Settles O40: `MemWrite` leaves every byte as `poke` does, and the latches are not memory. -/
theorem memReadAfterMemWrite : Obligations.MemReadAfterMemWrite := by
  refine fun s a b v => ⟨?_, State.peek_of_not_inBounds, rfl, rfl⟩
  simp only [State.memRead_fst, State.memWrite_peek, State.poke_peek, State.inBounds_iff]

/-- Settles O41: after the fetch `R[P]` is at the byte after the opcode, so STR P stores there, and with `IE` at 0
nothing moves the program counter from there before the next fetch. -/
theorem storeIsSeenByTheNextFetch : Obligations.StoreIsSeenByTheNextFetch := by
  intro s hop hbound hie
  have hpc : s.fetchOpcode.readReg s.p = s.pc + 1 := s.pc_fetchOpcode
  have hstep := step_str hop
  rw [hpc] at hstep
  have hpc' : (s.fetchOpcode.memWrite (s.pc + 1) s.d).afterInstruction.pc = s.pc + 1 := by
    rw [State.afterInstruction_pc (by simpa using hie), State.memWrite_pc, State.pc_fetchOpcode]
  refine ⟨_, hstep, hpc', ?_⟩
  rw [State.opcode, hpc', State.afterInstruction_peek, State.memWrite_peek, State.poke_peek]
  exact if_pos ⟨rfl, hbound⟩

/-- Settles O55: an image loaded at 0, read back at an address in bounds; elsewhere both sides are `FLOAT_BUS`. -/
theorem loadImageOverwritesFromZero : Obligations.LoadImageOverwritesFromZero := by
  refine fun s bytes => ⟨fun a => ?_, rfl⟩
  by_cases ha : a.toNat < s.cfg.memSize
  · have hread : (s.loadImage bytes).peek a = (Memory.load s.cfg.memSize s.mem 0 bytes).read a.toNat :=
      State.peek_of_inBounds (s := s.loadImage bytes) ha
    rw [hread, Memory.read_load, State.peek_of_inBounds ha]
    simp [ha]
  · rw [State.peek_of_not_inBounds ha, State.peek_of_not_inBounds (s := s.loadImage bytes) ha]
    simp [ha, State.loadImage]

end Sys2Proof.Proofs
end

section
/-! SUPPORT. The decoder and the encoder, through the opcode map: an entry of the map makes an instruction of the two
bytes after the opcode, and the encoder writes back the opcode and as many of them as the entry takes. Proved group by
group, as the map is laid out (R95, R96). -/

namespace Sys2Proof
open Sys2Proof.Machine

/-- A word is its two bytes, high byte first (R65). -/
theorem highByte_append_lowByte (w : Word) : highByte w ++ lowByte w = w :=
  (BitVec.extractLsb'_append_extractLsb'_eq_extractLsb' rfl).trans BitVec.extractLsb'_eq_self

theorem highByte_append (a b : Byte) : highByte (a ++ b) = a := BitVec.extractLsb'_append_eq_left

theorem lowByte_append (a b : Byte) : lowByte (a ++ b) = b := BitVec.extractLsb'_append_eq_right

/-- An opcode is its nibbles `I` and `N` (R91). -/
theorem opcodeI_append_opcodeN (op : Byte) : opcodeI op ++ opcodeN op = op :=
  (BitVec.extractLsb'_append_extractLsb'_eq_extractLsb' rfl).trans BitVec.extractLsb'_eq_self

theorem opcodeI_append (i n : Nibble) : opcodeI (i ++ n) = i := BitVec.extractLsb'_append_eq_left

theorem opcodeN_append (i n : Nibble) : opcodeN (i ++ n) = n := BitVec.extractLsb'_append_eq_right

/-- The encoder puts the two address bytes of a long branch back in the order they were read (R210, R65). -/
theorem encodeLong_append (op b1 b2 : Byte) : encodeLong op (b1 ++ b2) = [op, b1, b2] :=
  congrArg₂ (fun h l => [op, h, l]) (highByte_append b1 b2) (lowByte_append b1 b2)

/-- The instruction an entry makes of the two bytes after the opcode (R90). -/
def Entry.instr (e : Entry) (b1 b2 : Byte) : Instr :=
  match e with
  | .op i => i
  | .byte f => f b1
  | .word f => f (b1 ++ b2)

/-- How many bytes an instruction of an entry has, the opcode included (R90). -/
def Entry.length : Entry → Nat
  | .op _ => 1
  | .byte _ => 2
  | .word _ => 3

theorem decodeBytes_eq_instr (op b1 b2 : Byte) : decodeBytes op b1 b2 = (entryOf op).instr b1 b2 := by
  rw [decodeBytes]; cases entryOf op <;> rfl

/-- The formats of the opcode map have the lengths R94 lists. -/
theorem entryOf_length (op : Byte) : (entryOf op).length = opcodeLength op := by
  revert op; exact forall_byte fun k => by fin_cases k <;> rfl

/-- On the bytes of one instruction, with any bytes after them, the list decoder reads what `decodeBytes` reads. -/
theorem decode_take_append (op b1 b2 : Byte) (rest : List Byte) :
    decode ([op, b1, b2].take (opcodeLength op) ++ rest) = .ok (decodeBytes op b1 b2, rest) := by
  rw [← entryOf_length, decodeBytes_eq_instr]
  cases h : entryOf op <;> simp [Entry.length, Entry.instr, decode, h]

/-- The opcode and both bytes after it are read back from an entry's instruction, as far as the entry takes them. -/
def Entry.EncodedBy (op : Byte) (e : Entry) : Prop :=
  ∀ b1 b2, encode (e.instr b1 b2) = [op, b1, b2].take e.length

theorem Entry.EncodedBy.op {op : Byte} {i : Instr} (h : encode i = [op]) : (Entry.op i).EncodedBy op :=
  fun _ _ => h

theorem Entry.EncodedBy.byte {op : Byte} {f : Byte → Instr} (h : ∀ b, encode (f b) = [op, b]) :
    (Entry.byte f).EncodedBy op :=
  fun b1 _ => h b1

theorem Entry.EncodedBy.word {op : Byte} {f : Word → Instr} (h : ∀ w, encode (f w) = encodeLong op w) :
    (Entry.word f).EncodedBy op :=
  fun b1 b2 => (h _).trans (encodeLong_append op b1 b2)

theorem group3_encodedBy (n : Nibble) : (group3 n).EncodedBy (0x3#4 ++ n) := by
  revert n; exact forall_nibble fun k => by fin_cases k <;> exact .byte fun _ => rfl

theorem group6_encodedBy (n : Nibble) : (group6 n).EncodedBy (0x6#4 ++ n) := by
  revert n; exact forall_nibble fun k => by fin_cases k <;> exact .op rfl

/-- Three sub-opcodes of this row take an immediate byte: 0x7C, 0x7D, 0x7F (R94). -/
theorem group7_encodedBy (n : Nibble) : (group7 n).EncodedBy (0x7#4 ++ n) := by
  revert n
  refine forall_nibble fun k => ?_
  fin_cases k
  iterate 12 exact .op rfl
  iterate 2 exact .byte fun _ => rfl
  exact .op rfl
  exact .byte fun _ => rfl

/-- The long branches take a target: 0xC0 to 0xC3 and 0xC9 to 0xCB (R94). -/
theorem groupC_encodedBy (n : Nibble) : (groupC n).EncodedBy (0xC#4 ++ n) := by
  revert n
  refine forall_nibble fun k => ?_
  fin_cases k
  iterate 4 exact .word fun _ => rfl
  iterate 5 exact .op rfl
  iterate 3 exact .word fun _ => rfl
  iterate 4 exact .op rfl

/-- The immediate operations take a byte: 0xF8 to 0xFD and 0xFF (R94). -/
theorem groupF_encodedBy (n : Nibble) : (groupF n).EncodedBy (0xF#4 ++ n) := by
  revert n
  refine forall_nibble fun k => ?_
  fin_cases k
  iterate 8 exact .op rfl
  iterate 6 exact .byte fun _ => rfl
  exact .op rfl
  exact .byte fun _ => rfl

/-- Every entry of the opcode map is encoded by the opcode that selects it, one row `I` of the map at a time (R95). -/
theorem entryOf_append_encodedBy (i n : Nibble) : (entryOf (i ++ n)).EncodedBy (i ++ n) := by
  simp only [entryOf, opcodeI_append, opcodeN_append]
  revert i
  refine forall_nibble fun k => ?_
  fin_cases k
  · exact .op (encode_ldnOf n)
  · exact .op (encode_incOf n)
  · exact .op (encode_decOf n)
  · exact group3_encodedBy n
  · exact .op (encode_ldaOf n)
  · exact .op (encode_strOf n)
  · exact group6_encodedBy n
  · exact group7_encodedBy n
  · exact .op (encode_gloOf n)
  · exact .op (encode_ghiOf n)
  · exact .op (encode_ploOf n)
  · exact .op (encode_phiOf n)
  · exact groupC_encodedBy n
  · exact .op (encode_sepOf n)
  · exact .op (encode_sexOf n)
  · exact groupF_encodedBy n

theorem entryOf_encodedBy (op : Byte) : (entryOf op).EncodedBy op := by
  rw [← opcodeI_append_opcodeN op]; exact entryOf_append_encodedBy _ _

/-- The encoder undoes the decoder: it writes the opcode and as many of the bytes as were read (R94, R97). -/
theorem encode_decodeBytes (op b1 b2 : Byte) :
    encode (decodeBytes op b1 b2) = [op, b1, b2].take (opcodeLength op) := by
  rw [← entryOf_length, decodeBytes_eq_instr, entryOf_encodedBy op]

theorem decodeBytes_of_word {op : Byte} {f : Word → Instr} (h : entryOf op = .word f) (w : Word) :
    decodeBytes op (highByte w) (lowByte w) = f w := by
  rw [decodeBytes_eq_instr, h, Entry.instr, highByte_append_lowByte]

/-- Decoded from the bytes it is encoded by, an instruction is itself (R90): the split over the constructors of `Instr`,
where only a long branch has to put its operand together again. -/
theorem decodeBytes_encode (i : Instr) : decodeBytes (opcodeOf i) ((encode i).getD 1 0) ((encode i).getD 2 0) = i := by
  cases i <;> simp only [opcodeOf, encode, encodeLong, List.headD_cons]
  case lbr w | lbq w | lbz w | lbdf w | lbnq w | lbnz w | lbnf w => exact decodeBytes_of_word rfl w
  all_goals rfl

end Sys2Proof
end

section
/-! THEOREMS. Encoding: decode and encode undo each other. -/

namespace Sys2Proof.Proofs
open Sys2Proof.Machine

/-- Settles O2: the encoder undoes the decoder on the opcode map. -/
theorem encodeOfDecodeGivesTheBytesBack : Obligations.EncodeOfDecodeGivesTheBytesBack := encode_decodeBytes

/-- Settles O1: every instruction is decoded from some three bytes, the encoder gives back as many of them as it has,
and the list decoder reads just those. -/
theorem decodeOfEncodeIsTheInstruction : Obligations.DecodeOfEncodeIsTheInstruction := by
  intro i rest
  obtain ⟨op, b1, b2, rfl⟩ : ∃ op b1 b2, decodeBytes op b1 b2 = i := ⟨_, _, _, decodeBytes_encode i⟩
  rw [encode_decodeBytes, decode_take_append]

end Sys2Proof.Proofs
end

section
/-! SUPPORT. The calls of each instruction to the Hardware Interface, and the step as a whole: it always answers, and
what it executes is what the list decoder reads at the program counter. -/

namespace Sys2Proof.Machine

/-- The calls an instruction makes when it is executed from `s`, each with the byte or the bit it carries (R71, R72,
R75). `exec_trace` ties this to `exec`. -/
def callsOf (i : Instr) (s : State) : List HwCall :=
  match i with
  | .out1 => [.setScreenOff]
  | .out4 => [.setDigitDisplay (s.peek s.index)]
  | .inp1 => [.setScreenOn]
  | .inp4 => [.readKeypadLatch s.nextKeypad]
  | .b4 _ | .bn4 _ => [.queryKeyPressed s.nextKey]
  | _ => []

/-- R122: the record of calls grows by the calls of the instruction. Where the answer depends on a condition, both
branches leave the record alone. -/
theorem exec_trace {i : Instr} {s s' : State} (h : exec i s = .next s') : s'.trace = s.trace ++ callsOf i s := by
  cases i
  case out1 | out4 | inp1 | inp4 | b4 | bn4 => cases h; rfl
  case idl =>
    cases h
    split_ifs <;> exact (List.append_nil _).symm
  case lbr | lbq | lbz | lbdf | lbnq | lbnz | lbnf =>
    rw [longBranch_next h]; exact (List.append_nil _).symm
  case lskp | lsnq | lsnz | lsnf | lsq | lsz | lsdf | lsie =>
    rw [longSkip_next h]
    split_ifs <;> exact (List.append_nil _).symm
  all_goals cases h; exact (List.append_nil _).symm

/-- An instruction makes no call, or it is one of six and makes one, which does not end the frame. -/
theorem callsOf_cases (i : Instr) (s : State) :
    callsOf i s = [] ∨
      ∃ c ≠ .endOfFrame, callsOf i s = [c] ∧ opcodeOf i ∈ [0x61#8, 0x64, 0x69, 0x6C, 0x37, 0x3F] := by
  cases i
  case out1 | out4 | inp1 | inp4 | b4 | bn4 => exact .inr ⟨_, by simp, rfl, by simp [opcodeOf, encode]⟩
  all_goals exact .inl rfl

/-- No instruction completes a frame: only phase 5 notifies the end of one (R122). -/
theorem exec_frames {i : Instr} {s s' : State} (h : exec i s = .next s') : s'.frames = s.frames := by
  rw [State.frames, exec_trace h, List.count_append]
  obtain hc | ⟨c, hne, hc, -⟩ := callsOf_cases i s
  · rw [hc]; rfl
  · rw [hc, List.count_singleton, if_neg (by simpa using hne)]; rfl

/-- R121, R265: every meaning answers a next state. -/
theorem Meaning.total {i : Instr} {f : State → Result} (hf : Meaning i f) (s : State) : ∃ s', f s = .next s' := by
  cases hf <;> exact ⟨_, rfl⟩

theorem step_of_exec {s u : State} (h : exec s.instruction s.fetchOpcode = .next u) :
    step s = .next u.afterInstruction := by
  rw [step, h]

/-- Every step is an instruction executed to a next state, and the phases after it. -/
theorem step_total (s : State) :
    ∃ u, exec s.instruction s.fetchOpcode = .next u ∧ step s = .next u.afterInstruction := by
  obtain ⟨u, hu⟩ := (exec_meaning s.instruction).total s.fetchOpcode
  exact ⟨u, hu, step_of_exec hu⟩

/-- R116: phase 5 returns 0 or 60. -/
theorem State.frameCheck_result (s : State) : s.frameCheck.result = 0 ∨ s.frameCheck.result = 60 := by
  obtain ⟨_, h⟩ | ⟨_, h⟩ := s.frameCheck_cases <;> rw [h]
  · exact .inr rfl
  · exact .inl rfl

/-- From any three bytes the list decoder reads the instruction that `decodeBytes` reads. -/
theorem decode_three (op b1 b2 : Byte) :
    decode [op, b1, b2] = .ok (decodeBytes op b1 b2, [op, b1, b2].drop (opcodeLength op)) := by
  simpa only [List.take_append_drop] using decode_take_append op b1 b2 ([op, b1, b2].drop (opcodeLength op))

end Sys2Proof.Machine
end

section
/-! SUPPORT. The cadence of frames (R118): what the counter, the frames and the result of the last step are after some
steps with interrupts off. One step has it, and it composes, so a run of any length has it. -/

namespace Sys2Proof.Machine

/-- After `n` steps from `s` to `s'` with `IE` at 0, the total of cycles has been divided by the budget: the quotient
counts the frames completed, the remainder is in `CYC`, and the last step returned 60 when it raised the quotient. -/
structure Cadence (n : Nat) (s s' : State) : Prop where
  inv : s'.Inv
  ie : s'.ie = false
  cfg : s'.cfg = s.cfg
  frames : s'.frames = s.frames + (s.cyc + 2 * n) / s.cfg.frameCycles
  cyc : s'.cyc = (s.cyc + 2 * n) % s.cfg.frameCycles
  result : 0 < n → s'.result =
    if (s.cyc + 2 * n) / s.cfg.frameCycles = (s.cyc + 2 * (n - 1)) / s.cfg.frameCycles then 0 else 60

theorem State.Inv.le_frameCycles {s : State} (h : s.Inv) : 29 ≤ s.cfg.frameCycles :=
  Config.le_frameCycles_of_wf h.1

/-- No steps have the cadence. -/
theorem Cadence.refl {s : State} (h : s.Inv) (hie : s.ie = false) : Cadence 0 s s where
  inv := h
  ie := hie
  cfg := rfl
  frames := by simp [Nat.div_eq_of_lt h.2.1]
  cyc := (Nat.mod_eq_of_lt h.2.1).symm
  result := by simp

/-- A number is divided in two parts: what the first leaves over is divided together with the second. -/
theorem div_add_mod_add_div (a b : Nat) {c : Nat} (hc : 0 < c) : a / c + (a % c + b) / c = (a + b) / c := by
  calc a / c + (a % c + b) / c
    _ = (a % c + b + c * (a / c)) / c := by rw [Nat.add_mul_div_left _ _ hc, Nat.add_comm]
    _ = (a + b) / c := by rw [Nat.add_right_comm, Nat.mod_add_div]

/-- The cadence of some steps, then of one step or more, is the cadence of them all: the second run starts from the
remainder of the first. -/
theorem Cadence.trans {m n : Nat} {s t u : State} (h : Cadence m s t) (k : Cadence n t u) (hn : 0 < n) :
    Cadence (m + n) s u := by
  have hF : 0 < s.cfg.frameCycles := by have := h.inv.le_frameCycles; rw [h.cfg] at this; omega
  have hdiv (j : Nat) : (s.cyc + 2 * (m + j)) / s.cfg.frameCycles =
      (s.cyc + 2 * m) / s.cfg.frameCycles + (t.cyc + 2 * j) / s.cfg.frameCycles := by
    rw [h.cyc, div_add_mod_add_div _ _ hF, Nat.mul_add, Nat.add_assoc]
  have hpred : m + n - 1 = m + (n - 1) := by omega
  refine ⟨k.inv, k.ie, k.cfg.trans h.cfg, ?_, ?_, fun _ => ?_⟩
  · rw [k.frames, h.frames, h.cfg, hdiv, Nat.add_assoc]
  · rw [k.cyc, h.cyc, h.cfg, Nat.mod_add_mod, Nat.mul_add, Nat.add_assoc]
  · simp only [k.result hn, h.cfg, hpred, hdiv, Nat.add_right_inj]

/-- Phase 5 divides a counter less than a frame over the budget by the budget (R115, R116). -/
theorem State.frameCheck_divides {s : State} (h : s.cyc < s.cfg.frameCycles + s.cfg.frameCycles) :
    s.frameCheck.frames = s.frames + s.cyc / s.cfg.frameCycles ∧
      s.frameCheck.cyc = s.cyc % s.cfg.frameCycles ∧
      s.frameCheck.result = if s.cyc / s.cfg.frameCycles = 0 then 0 else 60 := by
  obtain ⟨hge, hs⟩ | ⟨hlt, hs⟩ := s.frameCheck_cases <;> rw [hs]
  · have hdiv : s.cyc / s.cfg.frameCycles = 1 := Nat.div_eq_of_lt_le (by omega) (by omega)
    have hmod : s.cyc % s.cfg.frameCycles = s.cyc - s.cfg.frameCycles := by
      rw [Nat.mod_eq_sub_mod hge, Nat.mod_eq_of_lt (by omega)]
    rw [hdiv, hmod]
    exact ⟨by simp [State.frames, State.completeFrame], rfl, rfl⟩
  · rw [Nat.div_eq_of_lt hlt, Nat.mod_eq_of_lt hlt]
    exact ⟨rfl, rfl, rfl⟩

/-- In phase 2, an instruction other than RET leaves interrupts off. -/
theorem exec_ie_of_opcode_ne {s u : State} (h : exec s.instruction s.fetchOpcode = .next u) (hie : s.ie = false)
    (hop : s.opcode ≠ 0x70#8) : u.ie = false := by
  by_contra hon
  have hret : s.instruction = .ret := (exec_change h).eq_ret (by simpa using hie) (by simpa using hon)
  exact hop (by rw [← opcodeOf_decodeBytes s.opcode, ← State.instruction, hret]; rfl)

/-- With interrupts off, a step of an instruction other than RET has the cadence of one step: the instruction touches
neither the counter nor the frames, phase 3 adds its cycles, phase 4 does nothing, and phase 5 divides. -/
theorem Cadence.step {s s' : State} (hstep : step s = .next s') (h : s.Inv) (hie : s.ie = false)
    (hop : s.opcode ≠ 0x70#8) : Cadence 1 s s' := by
  obtain ⟨u, hu, rfl⟩ := step_next hstep
  have hc : Change _ s.fetchOpcode u := exec_change hu
  have huie : u.ie = false := exec_ie_of_opcode_ne hu hie hop
  have hcyc : u.advanceCycles.cyc = s.cyc + 2 := congrArg (· + 2) hc.cyc_eq
  have hcfg : u.advanceCycles.cfg = s.cfg := hc.cfg_eq
  have hframes : u.advanceCycles.frames = s.frames := (exec_frames hu :)
  have hafter : u.afterInstruction = u.advanceCycles.frameCheck := by
    rw [State.afterInstruction, State.interruptCheck_of_ie (s := u.advanceCycles) huie]
  have hlead := h.le_frameCycles
  have hlt : s.cyc < s.cfg.frameCycles := h.2.1
  obtain ⟨hf, hn, hr⟩ := State.frameCheck_divides (s := u.advanceCycles) (by rw [hcyc, hcfg]; omega)
  rw [hcyc, hcfg] at hf hn hr
  have hinv : u.afterInstruction.Inv := (hc.inv h.fetchOpcode).afterInstruction
  rw [hafter] at hinv ⊢
  refine ⟨hinv, by simpa using huie, by simpa using hcfg, by rw [hf, hframes], hn, fun _ => ?_⟩
  rw [hr]
  simp [Nat.div_eq_of_lt hlt]

theorem runSteps_succ {s t : State} (h : step s = .next t) (n : Nat) : runSteps (n + 1) s = runSteps n t := by
  rw [runSteps, h]

theorem avoidsRet_succ {s t : State} (h : step s = .next t) (n : Nat) :
    avoidsRet (n + 1) s = true ↔ s.opcode ≠ 0x70#8 ∧ avoidsRet n t = true := by
  simp [avoidsRet, h]

/-- The first steps of a run without RET are a run without RET. -/
theorem avoidsRet_of_le {k n : Nat} (hk : k ≤ n) {s : State} (h : avoidsRet n s = true) : avoidsRet k s = true := by
  induction n generalizing k s with
  | zero => rwa [Nat.le_zero.mp hk]
  | succ n ih =>
    cases k with
    | zero => rfl
    | succ k =>
      obtain ⟨u, -, hstep⟩ := step_total s
      rw [avoidsRet_succ hstep] at h ⊢
      exact ⟨h.1, ih (Nat.le_of_succ_le_succ hk) h.2⟩

/-- R118: with interrupts off, a run without RET has the cadence. By induction on the number of steps: the first has
it, and the run after it. -/
theorem Cadence.runSteps {n : Nat} {s : State} (h : s.Inv) (hie : s.ie = false) (hret : avoidsRet n s = true) :
    ∃ s', Machine.runSteps n s = .next s' ∧ Cadence n s s' := by
  induction n generalizing s with
  | zero => exact ⟨s, rfl, .refl h hie⟩
  | succ n ih =>
    obtain ⟨u, -, hstep⟩ := step_total s
    obtain ⟨hop, hretRest⟩ := (avoidsRet_succ hstep n).mp hret
    have hfirst : Cadence 1 s _ := .step hstep h hie hop
    rw [runSteps_succ hstep]
    obtain rfl | hn := n.eq_zero_or_pos
    · exact ⟨_, rfl, hfirst⟩
    · obtain ⟨s', hrun, hrest⟩ := ih hfirst.inv hfirst.ie hretRest
      exact ⟨s', hrun, Nat.add_comm 1 n ▸ hfirst.trans hrest hn⟩

end Sys2Proof.Machine
end

section
/-! THEOREMS. The step: it runs the decoded instruction and always completes, what it calls, and when it completes a
frame. -/

namespace Sys2Proof.Proofs
open Sys2Proof.Machine

/-- Settles O58, by the cadence of a run. -/
theorem frameCadenceWithoutInterrupts : Obligations.FrameCadenceWithoutInterrupts := by
  intro n s hinv hie hret
  obtain ⟨s', hrun, hc⟩ := Cadence.runSteps hinv hie hret
  exact ⟨s', hrun, hc.ie, hc.frames, hc.cyc, hc.result⟩

/-- Settles O59: up to the fourteenth step the total of cycles, `FRAME_CYCLES - 1` at most, is below the budget; the
fifteenth brings it to `FRAME_CYCLES + 1`. -/
theorem frameEndsFifteenStepsAfterDelivery : Obligations.FrameEndsFifteenStepsAfterDelivery := by
  intro s hinv hie hcyc hret
  have hlead := hinv.le_frameCycles
  have hbelow (k : Nat) (hk : k ≤ 14) : s.cyc + 2 * k < s.cfg.frameCycles := by omega
  constructor
  · intro k hpos hk
    obtain ⟨u, hrun, hc⟩ := Cadence.runSteps hinv hie (avoidsRet_of_le (k := k) (by omega) hret)
    refine ⟨u, hrun, ?_, by rw [hc.cyc, Nat.mod_eq_of_lt (hbelow k hk), hcyc]⟩
    rw [hc.result hpos, Nat.div_eq_of_lt (hbelow k hk), Nat.div_eq_of_lt (hbelow (k - 1) (by omega)), if_pos rfl]
  · obtain ⟨u, hrun, hc⟩ := Cadence.runSteps hinv hie hret
    have htotal : s.cyc + 2 * 15 = 1 + s.cfg.frameCycles := by omega
    have hdiv : (s.cyc + 2 * 15) / s.cfg.frameCycles = 1 := by
      rw [htotal, Nat.add_div_right _ (by omega), Nat.div_eq_of_lt (by omega)]
    refine ⟨u, hrun, ?_, ?_, by rw [hc.frames, hdiv]⟩
    · rw [hc.result (by omega), hdiv, Nat.div_eq_of_lt (hbelow 14 (by omega)), if_neg (by omega)]
    · rw [hc.cyc, htotal, Nat.add_mod_right, Nat.mod_eq_of_lt (by omega)]

/-- Settles O52: the record grows by the instruction's calls, which are none or one. -/
theorem atMostOneInterfaceCall : Obligations.AtMostOneInterfaceCall := by
  intro i s s' h
  obtain hc | ⟨c, -, hc, hop⟩ := callsOf_cases i s
  · exact .inr (by rw [exec_trace h, hc, List.append_nil])
  · exact .inl ⟨c, by rw [exec_trace h, hc], hop⟩

/-- Settles O42: the list decoder reads the instruction that the step executes, from the state after the fetch. -/
theorem stepRunsTheDecodedInstruction : Obligations.StepRunsTheDecodedInstruction := by
  intro s s' i rest hdecode hexec
  rw [decode_three] at hdecode
  obtain ⟨rfl, -⟩ := Prod.mk.inj (Except.ok.inj hdecode)
  exact step_of_exec hexec

/-- Settles O48: every instruction answers a next state, and phase 5 gives the step its result. -/
theorem everyStepCompletes : Obligations.EveryStepCompletes := by
  intro s
  obtain ⟨u, -, hstep⟩ := step_total s
  exact ⟨_, hstep, u.advanceCycles.interruptCheck.frameCheck_result⟩

end Sys2Proof.Proofs
end

section
/-! SUPPORT. Loads and stores by what they change: an advanced or lowered register, a stored byte and a fetched
operand, each with its frame. LDX and LDXA are LDN and LDA at `R[X]`. -/

namespace Sys2Proof.Machine

/-- R23: an advanced register holds one more, modulo 2^16. -/
theorem State.readReg_incReg_self_toNat (s : State) (n : Nibble) :
    ((s.incReg n).readReg n).toNat = ((s.readReg n).toNat + 1) % 65536 := by
  rw [State.readReg_incReg, if_pos rfl, BitVec.toNat_add]; rfl

/-- R23: a lowered register holds one less, modulo 2^16. -/
theorem State.readReg_decReg_self_toNat (s : State) (n : Nibble) :
    ((s.decReg n).readReg n).toNat = ((s.readReg n).toNat + 65535) % 65536 := by
  rw [State.readReg_decReg, if_pos rfl, BitVec.toNat_sub, Nat.add_comm]; rfl

theorem State.incReg_sameRegistersBut (s : State) (n : Nibble) : SameRegistersBut n s (s.incReg n) :=
  fun _ hm => s.readReg_writeReg_other _ hm

theorem State.decReg_sameRegistersBut (s : State) (n : Nibble) : SameRegistersBut n s (s.decReg n) :=
  fun _ hm => s.readReg_writeReg_other _ hm

/-- R63: `MemWrite` stores its byte in bounds and leaves every other byte. -/
theorem State.memWrite_storesByte (s : State) (a : Word) (v : Byte) : StoresByte a v s (s.memWrite a v) := by
  intro b
  rw [State.memWrite_peek, State.poke_peek]

/-- R111: the fetch of an operand byte is all that an immediate operand does. -/
theorem State.fetchOperand_fetchesImmediate (s : State) (k : Byte) : FetchesImmediate k s (s.fetchOperand k) :=
  ⟨s.pc_fetchOperand k, s.fetchOperand_sameRegistersBut k, rfl, rfl⟩

theorem loadN_eq (n : Nibble) (s : State) :
    loadN n s = .next { s with d := s.peek (s.readReg n), ma := s.readReg n, mb := s.peek (s.readReg n) } := rfl

/-- R132: the load is from the register as it was before it advances. -/
theorem loadAdvance_effect (n : Nibble) (s : State) :
    ∃ s', loadAdvance n s = .next s' ∧ s'.d = s.peek (s.readReg n) ∧
      (s'.readReg n).toNat = ((s.readReg n).toNat + 1) % 65536 ∧ SameRegistersBut n s s' ∧
      s' = { s with r := s'.r, d := s'.d, ma := s.readReg n, mb := s.peek (s.readReg n) } :=
  ⟨_, rfl, rfl, State.readReg_incReg_self_toNat _ n, State.incReg_sameRegistersBut _ n, rfl⟩

/-- R133: LDX is the load through a register, at `R[X]`. -/
theorem exec_ldx (s : State) : exec .ldx s = loadN s.x s := rfl

/-- R134: LDXA is the advancing load, at `R[X]`. -/
theorem exec_ldxa (s : State) : exec .ldxa s = loadAdvance s.x s := rfl

/-- R135: LDI is the fetch of its operand, which `D` then takes. -/
theorem exec_ldi (k : Byte) (s : State) : exec (.ldi k) s = .next ((s.fetchOperand k).setD k) := rfl

/-- R137: STXD is the store at `R[X]` as it was, before the decrement. -/
theorem exec_stxd (s : State) : exec .stxd s = .next ((s.memWrite s.index s.d).decReg s.x) := rfl

end Sys2Proof.Machine
end

section
/-! THEOREMS. Memory reference: the written words, the loads and the stores. -/

namespace Sys2Proof.Proofs
open Sys2Proof.Machine

/-- Settles O3: each written word is the encoding of the instruction it stands for, and an instruction decodes from
its own encoding. -/
theorem writtenWordsDecode : Obligations.WrittenWordsDecode :=
  ⟨decodeBytes_encode .ldn7, decodeBytes_encode .inc10, decodeBytes_encode (.br 0x40), decodeBytes_encode .out4,
    decodeBytes_encode .inp4, decodeBytes_encode .ret, decodeBytes_encode (.ldi 0x3A),
    decodeBytes_encode (.lbr 0x1234), decodeBytes_encode .lskp, decodeBytes_encode .sep5⟩

/-- Settles O4: away from N = 0, which is IDL, the opcode row is the load through `R[N]`. -/
theorem ldnLoadsThroughRn : Obligations.LdnLoadsThroughRn := by
  intro n s hn
  exact ⟨encode_ldnOf n, by rw [exec_ldnOf n s hn, loadN_eq]⟩

/-- Settles O5: LDA N is the advancing load at `R[N]`. -/
theorem ldaLoadsAndAdvances : Obligations.LdaLoadsAndAdvances := by
  intro n s
  rw [exec_ldaOf]
  exact ⟨encode_ldaOf n, loadAdvance_effect n s⟩

/-- Settles O6: the two loads of LDN and LDA, at N = X. -/
theorem ldxAndLdxaLoadThroughRx : Obligations.LdxAndLdxaLoadThroughRx := by
  intro s
  rw [exec_ldx, exec_ldxa]
  exact ⟨rfl, rfl, loadN_eq s.x s, loadAdvance_effect s.x s⟩

/-- Settles O7: taking the operand into `D` adds nothing to what its fetch changed. -/
theorem ldiLoadsItsImmediate : Obligations.LdiLoadsItsImmediate := by
  intro k s
  have hfetch : FetchesImmediate k s ((s.fetchOperand k).setD k) := s.fetchOperand_fetchesImmediate k
  exact ⟨rfl, _, exec_ldi k s, State.setD_d _ k, hfetch, rfl⟩

/-- Settles O8: STR N is a `MemWrite` of `D` at `R[N]`. -/
theorem strStoresAtRn : Obligations.StrStoresAtRn := by
  intro n s
  rw [exec_strOf]
  exact ⟨encode_strOf n, _, rfl, s.memWrite_storesByte (s.readReg n) s.d, rfl⟩

/-- Settles O9: the decrement comes after the store and touches no byte, the store touches no register. -/
theorem stxdStoresAndDecrements : Obligations.StxdStoresAndDecrements := by
  intro s
  have hstore : StoresByte s.index s.d s ((s.memWrite s.index s.d).decReg s.x) := s.memWrite_storesByte s.index s.d
  exact ⟨rfl, _, exec_stxd s, hstore, State.readReg_decReg_self_toNat _ s.x, State.decReg_sameRegistersBut _ s.x, rfl⟩

end Sys2Proof.Proofs
end

section
/-! SUPPORT. The register operations by what they change: one register, or `D`, and the rest of the state as it was.
IRX is INC at `R[X]`. -/

namespace Sys2Proof.Machine

theorem State.writeReg_sameRegistersBut (s : State) (n : Nibble) (v : Word) : SameRegistersBut n s (s.writeReg n v) :=
  fun _ hm => s.readReg_writeReg_other v hm

/-- R140: the increment writes `R[N]` and no flag. -/
theorem incrementN_effect (n : Nibble) (s : State) :
    ∃ s', incrementN n s = .next s' ∧ (s'.readReg n).toNat = ((s.readReg n).toNat + 1) % 65536 ∧
      SameRegistersBut n s s' ∧ s' = { s with r := s'.r } :=
  ⟨_, rfl, s.readReg_incReg_self_toNat n, s.incReg_sameRegistersBut n, rfl⟩

/-- R141: the decrement writes `R[N]` and no flag. -/
theorem decrementN_effect (n : Nibble) (s : State) :
    ∃ s', decrementN n s = .next s' ∧ (s'.readReg n).toNat = ((s.readReg n).toNat + 65535) % 65536 ∧
      SameRegistersBut n s s' ∧ s' = { s with r := s'.r } :=
  ⟨_, rfl, s.readReg_decReg_self_toNat n, s.decReg_sameRegistersBut n, rfl⟩

/-- R143: `D` takes `R[N]` modulo 256. -/
theorem getLow_effect (n : Nibble) (s : State) :
    ∃ s', getLow n s = .next s' ∧ s'.d.toNat = (s.readReg n).toNat % 256 ∧ s' = { s with d := s'.d } :=
  ⟨_, rfl, lowByte_toNat (s.readReg n), rfl⟩

/-- R144: `D` takes `R[N]` divided by 256. -/
theorem getHigh_effect (n : Nibble) (s : State) :
    ∃ s', getHigh n s = .next s' ∧ s'.d.toNat = (s.readReg n).toNat / 256 ∧ s' = { s with d := s'.d } :=
  ⟨_, rfl, highByte_toNat (s.readReg n), rfl⟩

/-- R145: the high half of `R[N]` is kept and `D` is put under it. -/
theorem putLow_effect (n : Nibble) (s : State) :
    ∃ s', putLow n s = .next s' ∧ (s'.readReg n).toNat = (s.readReg n).toNat / 256 * 256 + s.d.toNat ∧
      SameRegistersBut n s s' ∧ s' = { s with r := s'.r } := by
  refine ⟨_, rfl, ?_, s.writeReg_sameRegistersBut n _, rfl⟩
  rw [State.readReg_writeReg_self, withLowByte_toNat]

/-- R146: the low half of `R[N]` is kept and `D` is put above it. -/
theorem putHigh_effect (n : Nibble) (s : State) :
    ∃ s', putHigh n s = .next s' ∧ (s'.readReg n).toNat = s.d.toNat * 256 + (s.readReg n).toNat % 256 ∧
      SameRegistersBut n s s' ∧ s' = { s with r := s'.r } := by
  refine ⟨_, rfl, ?_, s.writeReg_sameRegistersBut n _, rfl⟩
  rw [State.readReg_writeReg_self, withHighByte_toNat]

/-- R142: IRX is the increment, at `R[X]`. -/
theorem exec_irx (s : State) : exec .irx s = incrementN s.x s := rfl

end Sys2Proof.Machine
end

section
/-! THEOREMS. Register operations: INC, DEC, IRX, GLO, GHI, PLO and PHI. -/

namespace Sys2Proof.Proofs
open Sys2Proof.Machine

/-- Settles O10: INC N is the increment of `R[N]`, IRX the one of `R[X]`. -/
theorem incAndIrxAddOne : Obligations.IncAndIrxAddOne := by
  intro n s
  rw [exec_incOf, exec_irx]
  exact ⟨encode_incOf n, rfl, incrementN_effect n s, incrementN_effect s.x s⟩

/-- Settles O11: DEC N is the decrement of `R[N]`. -/
theorem decSubtractsOne : Obligations.DecSubtractsOne := by
  intro n s
  rw [exec_decOf]
  exact ⟨encode_decOf n, decrementN_effect n s⟩

/-- Settles O12: GLO N and GHI N read the two halves of `R[N]`. -/
theorem gloAndGhiReadAHalf : Obligations.GloAndGhiReadAHalf := by
  intro n s
  rw [exec_gloOf, exec_ghiOf]
  exact ⟨encode_gloOf n, encode_ghiOf n, getLow_effect n s, getHigh_effect n s⟩

/-- Settles O13: PLO N and PHI N replace one half of `R[N]` and keep the other. -/
theorem ploAndPhiWriteAHalf : Obligations.PloAndPhiWriteAHalf := by
  intro n s
  rw [exec_ploOf, exec_phiOf]
  exact ⟨encode_ploOf n, encode_phiOf n, putLow_effect n s, putHigh_effect n s⟩

end Sys2Proof.Proofs
end

section
/-! SUPPORT. The logic and shift instructions by what they change. A logic function is known by its truth table. A
shift with carry turns the nine bits `DF : D` as a ring, so that turns add up and nine of them are none. -/

namespace Sys2Proof.Machine

/-! ### Logic -/

/-- Each bit of the result is `g` of the same bits of the operands (R150). -/
def ActsBitwise (f : Byte → Byte → Byte) (g : Bool → Bool → Bool) : Prop :=
  ∀ a b : Byte, ∀ i < 8, (f a b).getLsbD i = g (a.getLsbD i) (b.getLsbD i)

theorem or8_actsBitwise : ActsBitwise or8 or := fun _ _ _ _ => BitVec.getLsbD_or

theorem xor8_actsBitwise : ActsBitwise xor8 xor := fun _ _ _ _ => BitVec.getLsbD_xor

theorem and8_actsBitwise : ActsBitwise and8 and := fun _ _ _ _ => BitVec.getLsbD_and

/-- R151, R153, R155: the operand is the byte at `R[X]`, and only `D` and the latches change. -/
theorem logic_viaX_effect {f : Byte → Byte → Byte} {g : Bool → Bool → Bool} (hf : ActsBitwise f g) (s : State) :
    ∃ s', logic s.viaX f = .next s' ∧ s' = { s with d := s'.d, ma := s.index, mb := s.peek s.index } ∧
      ∀ i < 8, s'.d.getLsbD i = g ((s.peek s.index).getLsbD i) (s.d.getLsbD i) :=
  ⟨_, rfl, rfl, hf (s.peek s.index) s.d⟩

/-- R152, R154, R156: the operand is the byte fetched, and only its fetch and `D` change the state. -/
theorem logic_immediate_effect {f : Byte → Byte → Byte} {g : Bool → Bool → Bool} (hf : ActsBitwise f g)
    (k : Byte) (s : State) :
    ∃ s', logic (s.immediate k) f = .next s' ∧ FetchesImmediate k s s' ∧
      s' = { s with r := s'.r, d := s'.d, ma := s'.ma, mb := s'.mb } ∧
      ∀ i < 8, s'.d.getLsbD i = g (k.getLsbD i) (s.d.getLsbD i) :=
  ⟨_, rfl, s.fetchOperand_fetchesImmediate k, rfl, hf k s.d⟩

/-! ### Shifts -/

/-- R157, R158: a shift to the right, whatever comes in at bit 7. -/
theorem shift_shr_effect (cin : Bool) (s : State) :
    ∃ s', shift shr cin s = .next s' ∧ s' = { s with d := s'.d, df := s'.df } ∧
      s'.d.toNat = cin.toNat * 128 + s.d.toNat / 2 ∧ s'.df = decide (s.d.toNat % 2 = 1) :=
  ⟨_, rfl, rfl, shr_fst s.d cin, shr_snd s.d cin⟩

/-- R159, R160: a shift to the left, whatever comes in at bit 0. -/
theorem shift_shl_effect (cin : Bool) (s : State) :
    ∃ s', shift shl cin s = .next s' ∧ s' = { s with d := s'.d, df := s'.df } ∧
      s'.d.toNat = s.d.toNat * 2 % 256 + cin.toNat ∧ s'.df = decide (128 ≤ s.d.toNat) :=
  ⟨_, rfl, rfl, shl_fst s.d cin, shl_snd s.d cin⟩

/-- R157: SHR is the shift to the right with 0 coming in. -/
theorem exec_shr (s : State) : exec .shr s = shift shr false s := rfl

/-- R158: SHRC is the shift to the right with `DF` coming in. -/
theorem exec_shrc (s : State) : exec .shrc s = shift shr s.df s := rfl

/-- R159: SHL is the shift to the left with 0 coming in. -/
theorem exec_shl (s : State) : exec .shl s = shift shl false s := rfl

/-- R160: SHLC is the shift to the left with `DF` coming in. -/
theorem exec_shlc (s : State) : exec .shlc s = shift shl s.df s := rfl

/-! ### The ring of nine bits -/

/-- The nine bits `DF : D` (R158, R160). -/
def carryRing (r : Byte × Bool) : BitVec 9 := BitVec.cons r.2 r.1

theorem carryRing_bit (r : Byte × Bool) (i : Nat) :
    (carryRing r).getLsbD i = if i = 8 then r.2 else r.1.getLsbD i := BitVec.getLsbD_cons r.2 r.1 i

theorem carryRing_injective : Function.Injective carryRing := by
  intro r t h
  have hdf : r.2 = t.2 := by simpa [carryRing] using congrArg BitVec.msb h
  have hd : r.1 = t.1 := by simpa [carryRing] using congrArg (BitVec.setWidth 8) h
  exact Prod.ext hd hdf

/-- `f` turns the ring by `k` places: bit `i` is the old bit `i + k`, counted around. -/
def TurnsRing (k : Nat) (f : Byte × Bool → Byte × Bool) : Prop :=
  ∀ r, ∀ i < 9, (carryRing (f r)).getLsbD i = (carryRing r).getLsbD ((i + k) % 9)

/-- R158: to the right, each bit is the one that stood above it, and `DF` the one that stood at the bottom. -/
theorem shr_turnsRing : TurnsRing 1 (Function.uncurry shr) := by
  rintro ⟨d, df⟩ i hi
  simp only [carryRing_bit, Function.uncurry, shr, BitVec.getLsbD_append, BitVec.getLsbD_extractLsb']
  interval_cases i <;> simp

/-- R160: to the left, each bit is the one that stood below it, eight places on around the ring. -/
theorem shl_turnsRing : TurnsRing 8 (Function.uncurry shl) := by
  rintro ⟨d, df⟩ i hi
  simp only [carryRing_bit, Function.uncurry, shl, BitVec.getLsbD_append, BitVec.getLsbD_extractLsb']
  interval_cases i <;> simp

/-- Turns add up. -/
theorem TurnsRing.iterate {k : Nat} {f : Byte × Bool → Byte × Bool} (hf : TurnsRing k f) (n : Nat) :
    TurnsRing (n * k) f^[n] := by
  induction n with
  | zero => intro r i hi; simp [Nat.mod_eq_of_lt hi]
  | succ n ih =>
    intro r i hi
    have hlast : (carryRing (f^[n] (f r))).getLsbD i = (carryRing (f r)).getLsbD ((i + n * k) % 9) := ih (f r) i hi
    rw [Function.iterate_succ_apply, hlast, hf r _ (Nat.mod_lt _ (by decide)), Nat.mod_add_mod, Nat.succ_mul,
      Nat.add_assoc]

/-- A turn by nine places, however many times around, is no turn. -/
theorem TurnsRing.apply_eq_self {m : Nat} {f : Byte × Bool → Byte × Bool} (hf : TurnsRing (9 * m) f)
    (r : Byte × Bool) : f r = r := by
  apply carryRing_injective
  apply BitVec.eq_of_getLsbD_eq
  intro i hi
  rw [hf r i hi, Nat.add_mul_mod_self_left, Nat.mod_eq_of_lt hi]

/-- A shift with `DF` coming in, executed `n` times, is `n` iterations of its function on (`D`, `DF`). -/
theorem execTimes_shift_df {i : Instr} {f : Byte → Bool → Byte × Bool} (hi : ∀ s, exec i s = shift f s.df s)
    (n : Nat) (s : State) : execTimes n i s = .next (s.setAlu ((Function.uncurry f)^[n] (s.d, s.df))) := by
  induction n generalizing s with
  | zero => rfl
  | succ n ih =>
    have hfirst : exec i s = .next (s.setAlu (f s.d s.df)) := hi s
    calc execTimes (n + 1) i s
      _ = execTimes n i (s.setAlu (f s.d s.df)) := by simp only [execTimes, hfirst]
      _ = .next (s.setAlu ((Function.uncurry f)^[n + 1] (s.d, s.df))) := ih _

/-- A shift with `DF` coming in that turns the ring restores the state when executed nine times. -/
theorem execTimes_nine_of_turnsRing {i : Instr} {f : Byte → Bool → Byte × Bool} {k : Nat}
    (hi : ∀ s, exec i s = shift f s.df s) (hf : TurnsRing k (Function.uncurry f)) (s : State) :
    execTimes 9 i s = .next s := by
  have hnine : (Function.uncurry f)^[9] (s.d, s.df) = (s.d, s.df) := (hf.iterate 9).apply_eq_self (s.d, s.df)
  rw [execTimes_shift_df hi, hnine]
  rfl

end Sys2Proof.Machine
end

section
/-! THEOREMS. Logic and shift: the bitwise instructions, the shifts in numbers, nine rotations. -/

namespace Sys2Proof.Proofs
open Sys2Proof.Machine

/-- Settles O18: SHRC turns the ring `DF : D` by one place, SHLC by eight; nine turns of either are no turn. -/
theorem nineRotatesRestoreTheState : Obligations.NineRotatesRestoreTheState := by
  intro s
  exact ⟨execTimes_nine_of_turnsRing exec_shrc shr_turnsRing s,
    execTimes_nine_of_turnsRing exec_shlc shl_turnsRing s⟩

/-- Settles O14: the three functions are bitwise, and their operand is the byte at `R[X]`. -/
theorem logicWithMemoryIsBitwise : Obligations.LogicWithMemoryIsBitwise := by
  intro s
  exact ⟨rfl, rfl, rfl, logic_viaX_effect or8_actsBitwise s, logic_viaX_effect xor8_actsBitwise s,
    logic_viaX_effect and8_actsBitwise s⟩

/-- Settles O15: the three functions are bitwise, and their operand is the byte fetched. -/
theorem logicWithImmediateIsBitwise : Obligations.LogicWithImmediateIsBitwise := by
  intro k s
  exact ⟨rfl, rfl, rfl, logic_immediate_effect or8_actsBitwise k s, logic_immediate_effect xor8_actsBitwise k s,
    logic_immediate_effect and8_actsBitwise k s⟩

/-- Settles O16: one shift to the right, with 0 or with `DF` coming in. -/
theorem rightShiftsHalveD : Obligations.RightShiftsHalveD := by
  intro s
  have hshr := shift_shr_effect false s
  rw [Bool.toNat_false, Nat.zero_mul, Nat.zero_add] at hshr
  rw [exec_shr, exec_shrc]
  exact ⟨rfl, rfl, hshr, shift_shr_effect s.df s⟩

/-- Settles O17: one shift to the left, with 0 or with `DF` coming in. -/
theorem leftShiftsDoubleD : Obligations.LeftShiftsDoubleD := by
  intro s
  rw [exec_shl, exec_shlc]
  exact ⟨rfl, rfl, shift_shl_effect false s, shift_shl_effect s.df s⟩

end Sys2Proof.Proofs
end

section
/-! SUPPORT. The arithmetic instructions by what they change, and subtraction in numbers. The complement of the
subtrahend is 255 less it, so the adder's sum is 256 above the difference, and its carry says that no borrow was
needed (R165, R166). -/

namespace Sys2Proof.Machine

/-! ### Subtraction on the adder -/

/-- R165: what is added to the complement exceeds the difference, the borrow in taken off, by 256. -/
theorem add_not8_toNat (x y : Byte) (c : Bool) :
    ((x.toNat + (not8 y).toNat + c.toNat : Nat) : Int) = x.toNat - y.toNat - (1 - c.toNat) + 256 := by
  rw [not8_toNat]
  have hy : y.toNat < 256 := y.isLt
  omega

/-- R166: modulo 256, the sum with the complement is the difference, less 1 when the carry in is 0. -/
theorem sumAndCarry_not8_fst (x y : Byte) (c : Bool) :
    ((sumAndCarry x (not8 y) c).1.toNat : Int) = (x.toNat - y.toNat - (1 - c.toNat) : Int) % 256 := by
  rw [sumAndCarry_fst, Int.natCast_emod, add_not8_toNat]
  exact Int.add_emod_right _ 256

/-- R166: the carry out is 1 exactly when the subtrahend and the borrow in can be taken off. -/
theorem sumAndCarry_not8_snd (x y : Byte) (c : Bool) :
    (sumAndCarry x (not8 y) c).2 = decide (y.toNat + (1 - c.toNat) ≤ x.toNat) := by
  have hsum := add_not8_toNat x y c
  have hc : c.toNat ≤ 1 := c.toNat_le
  rw [sumAndCarry_snd, decide_eq_decide]
  omega

/-- R166: with carry in 1 no borrow comes in, and the result is the plain difference. -/
theorem sumAndCarry_not8_true_fst (x y : Byte) :
    ((sumAndCarry x (not8 y) true).1.toNat : Int) = (x.toNat - y.toNat : Int) % 256 := by
  simpa using sumAndCarry_not8_fst x y true

theorem sumAndCarry_not8_true_snd (x y : Byte) :
    (sumAndCarry x (not8 y) true).2 = decide (y.toNat ≤ x.toNat) := sumAndCarry_not8_snd x y true

/-! ### The two operands -/

/-- R165: with the byte at `R[X]`, only `D`, `DF` and the latches change. -/
theorem arithmetic_viaX (f : Byte → Byte → Bool → Byte × Bool) (s : State) :
    arithmetic s.viaX f = .next { s with
      d := (f (s.peek s.index) s.d s.df).1, df := (f (s.peek s.index) s.d s.df).2,
      ma := s.index, mb := s.peek s.index } := rfl

/-- R165: with an immediate byte, `D` and `DF` are computed after its fetch, which left them as they were. -/
theorem arithmetic_immediate (f : Byte → Byte → Bool → Byte × Bool) (k : Byte) (s : State) :
    arithmetic (s.immediate k) f = .next ((s.fetchOperand k).setAlu (f k s.d s.df)) := rfl

/-- Taking a result into `D` and `DF` adds nothing to what the fetch of the operand moved. -/
theorem State.setAlu_fetchesImmediate (s : State) (k : Byte) (r : Byte × Bool) :
    FetchesImmediate k s ((s.fetchOperand k).setAlu r) := s.fetchOperand_fetchesImmediate k

end Sys2Proof.Machine
end

section
/-! THEOREMS. Arithmetic: additions and subtractions with the byte at `R[X]` and with an immediate byte. In each, the
instruction without `DF` is the adder with a constant carry in, the other the adder with `DF` as its carry in. -/

namespace Sys2Proof.Proofs
open Sys2Proof.Machine

/-- Settles O21: the adder on M and the complement of `D`. -/
theorem subtractDFromMemory : Obligations.SubtractDFromMemory := by
  intro s
  exact ⟨rfl, rfl,
    ⟨_, arithmetic_viaX sdOp s, rfl, sumAndCarry_not8_true_fst _ s.d, sumAndCarry_not8_true_snd _ s.d⟩,
    ⟨_, arithmetic_viaX sdbOp s, rfl, sumAndCarry_not8_fst _ s.d s.df, sumAndCarry_not8_snd _ s.d s.df⟩⟩

/-- Settles O22: the adder on the immediate byte and the complement of `D`. -/
theorem subtractDFromImmediate : Obligations.SubtractDFromImmediate := by
  intro k s
  exact ⟨rfl, rfl,
    ⟨_, arithmetic_immediate sdOp k s, s.setAlu_fetchesImmediate k _, rfl,
      sumAndCarry_not8_true_fst k s.d, sumAndCarry_not8_true_snd k s.d⟩,
    ⟨_, arithmetic_immediate sdbOp k s, s.setAlu_fetchesImmediate k _, rfl,
      sumAndCarry_not8_fst k s.d s.df, sumAndCarry_not8_snd k s.d s.df⟩⟩

/-- Settles O23: the adder on `D` and the complement of M. -/
theorem subtractMemoryFromD : Obligations.SubtractMemoryFromD := by
  intro s
  exact ⟨rfl, rfl,
    ⟨_, arithmetic_viaX smOp s, rfl, sumAndCarry_not8_true_fst s.d _, sumAndCarry_not8_true_snd s.d _⟩,
    ⟨_, arithmetic_viaX smbOp s, rfl, sumAndCarry_not8_fst s.d _ s.df, sumAndCarry_not8_snd s.d _ s.df⟩⟩

/-- Settles O24: the adder on `D` and the complement of the immediate byte. -/
theorem subtractImmediateFromD : Obligations.SubtractImmediateFromD := by
  intro k s
  exact ⟨rfl, rfl,
    ⟨_, arithmetic_immediate smOp k s, s.setAlu_fetchesImmediate k _, rfl,
      sumAndCarry_not8_true_fst s.d k, sumAndCarry_not8_true_snd s.d k⟩,
    ⟨_, arithmetic_immediate smbOp k s, s.setAlu_fetchesImmediate k _, rfl,
      sumAndCarry_not8_fst s.d k s.df, sumAndCarry_not8_snd s.d k s.df⟩⟩

/-- Settles O19: the adder on M and `D`, whose carry out is a sum above 255. -/
theorem addWithMemory : Obligations.AddWithMemory := by
  intro s
  exact ⟨rfl, rfl,
    ⟨_, arithmetic_viaX addOp s, rfl, sumAndCarry_fst _ s.d false, sumAndCarry_snd _ s.d false⟩,
    ⟨_, arithmetic_viaX adcOp s, rfl, sumAndCarry_fst _ s.d s.df, sumAndCarry_snd _ s.d s.df⟩⟩

/-- Settles O20: the adder on the immediate byte and `D`. -/
theorem addWithImmediate : Obligations.AddWithImmediate := by
  intro k s
  exact ⟨rfl, rfl,
    ⟨_, arithmetic_immediate addOp k s, s.setAlu_fetchesImmediate k _, rfl,
      sumAndCarry_fst k s.d false, sumAndCarry_snd k s.d false⟩,
    ⟨_, arithmetic_immediate adcOp k s, s.setAlu_fetchesImmediate k _, rfl,
      sumAndCarry_fst k s.d s.df, sumAndCarry_snd k s.d s.df⟩⟩

end Sys2Proof.Proofs
end

section
/-! SUPPORT. The short branches by what they change: `R[P]`, which takes a low byte in the operand's page or moves one
on, and the latches. -/

namespace Sys2Proof.Machine

/-- R185: where a short branch leaves `R[P]`, in numbers. The page of a taken branch is the page rule (PRESUMED by the
spec: notes/assumptions/13.md). -/
theorem shortBranch_target_toNat (taken : Bool) (pc : Word) (a : Byte) :
    (if taken then withLowByte pc a else pc + 1).toNat =
      if taken then pc.toNat / 256 * 256 + a.toNat else (pc.toNat + 1) % 65536 := by
  cases taken with
  | true => exact withLowByte_toNat pc a
  | false => exact BitVec.toNat_add pc 1

/-- R185: a short branch reads its operand byte at `R[P]`, and then writes that register alone. -/
theorem shortBranch_effect (taken : Bool) (a : Byte) (s : State) :
    ∃ s', shortBranch taken a s = .next s' ∧ ShortBranches taken a s s' := by
  refine ⟨_, rfl, ?_, State.writeReg_sameRegistersBut (s.readOperand a) s.p _, rfl⟩
  rw [State.pc_setPc, shortBranch_target_toNat]

/-- R186: BR is the short branch that is always taken. -/
theorem exec_br (a : Byte) (s : State) : exec (.br a) s = shortBranch true a s := rfl

/-- R194: SKP is the short branch that is never taken. -/
theorem exec_skp (a : Byte) (s : State) : exec (.skp a) s = shortBranch false a s := rfl

end Sys2Proof.Machine
end

section
/-! THEOREMS. Short branches: BR always branches, SKP never. -/

namespace Sys2Proof.Proofs
open Sys2Proof.Machine

/-- Settles O25: BR and SKP are the two cases of the short branch. -/
theorem brAlwaysAndSkpNeverBranch : Obligations.BrAlwaysAndSkpNeverBranch := by
  intro a s
  rw [exec_br, exec_skp]
  exact ⟨rfl, rfl, shortBranch_effect true a s, shortBranch_effect false a s⟩

end Sys2Proof.Proofs
end

section
/-! SUPPORT. The long skips by what they change: `R[P]` when the condition holds, nothing when not. Each instruction
is the long skip on its condition, in the numbers and flag levels the rules use. -/

namespace Sys2Proof.Machine

/-- A byte is 0 as a number exactly when it is the byte 0, which is what the engine tests. -/
theorem decide_toNat_eq_zero (b : Byte) : decide (b.toNat = 0) = (b == 0) := by
  rw [Bool.eq_iff_iff, decide_eq_true_iff, beq_iff_eq]
  exact BitVec.toNat_inj (y := 0)

theorem decide_toNat_ne_zero (b : Byte) : decide (b.toNat ≠ 0) = (b != 0) := by
  rw [decide_not, decide_toNat_eq_zero, bne]

/-- R220: a long skip reads no byte and writes no state but `R[P]`, and that only when taken. -/
theorem longSkip_effect (taken : Bool) (s : State) : ∃ s', longSkip taken s = .next s' ∧ LongSkips taken s s' := by
  cases taken with
  | true => exact ⟨s.setPc (s.pc + 2), rfl, s.pc_setPc _, s.writeReg_sameRegistersBut s.p _, rfl⟩
  | false => exact ⟨s, rfl, rfl, fun _ _ => rfl, rfl⟩

/-- R221: LSKP is the long skip that is always taken. -/
theorem exec_lskp (s : State) : exec .lskp s = longSkip true s := rfl

/-- R222: LSNQ skips when `Q` is 0. -/
theorem exec_lsnq (s : State) : exec .lsnq s = longSkip (decide (s.q = false)) s := by
  rw [Bool.decide_eq_false]; rfl

/-- R223: LSNZ skips when `D` is not 0. -/
theorem exec_lsnz (s : State) : exec .lsnz s = longSkip (decide (s.d.toNat ≠ 0)) s := by
  rw [decide_toNat_ne_zero]; rfl

/-- R224: LSNF skips when `DF` is 0. -/
theorem exec_lsnf (s : State) : exec .lsnf s = longSkip (decide (s.df = false)) s := by
  rw [Bool.decide_eq_false]; rfl

/-- R225: LSQ skips when `Q` is 1. -/
theorem exec_lsq (s : State) : exec .lsq s = longSkip (decide (s.q = true)) s := by
  rw [Bool.decide_eq_true]; rfl

/-- R226: LSZ skips when `D` is 0. -/
theorem exec_lsz (s : State) : exec .lsz s = longSkip (decide (s.d.toNat = 0)) s := by
  rw [decide_toNat_eq_zero]; rfl

/-- R227: LSDF skips when `DF` is 1. -/
theorem exec_lsdf (s : State) : exec .lsdf s = longSkip (decide (s.df = true)) s := by
  rw [Bool.decide_eq_true]; rfl

/-- R229: LSIE skips when interrupts are enabled. -/
theorem exec_lsie (s : State) : exec .lsie s = longSkip (decide (s.ie = true)) s := by
  rw [Bool.decide_eq_true]; rfl

end Sys2Proof.Machine
end

section
/-! THEOREMS. Long skips: the eight conditions. -/

namespace Sys2Proof.Proofs
open Sys2Proof.Machine

/-- Settles O31: each of the eight is the long skip on its condition, whose effect is the same for any condition. -/
theorem longSkipsAddTwo : Obligations.LongSkipsAddTwo := by
  intro s
  rw [exec_lskp, exec_lsnq, exec_lsnz, exec_lsnf, exec_lsq, exec_lsz, exec_lsdf, exec_lsie]
  exact ⟨rfl, rfl, rfl, rfl, rfl, rfl, rfl, rfl, longSkip_effect _ s, longSkip_effect _ s, longSkip_effect _ s,
    longSkip_effect _ s, longSkip_effect _ s, longSkip_effect _ s, longSkip_effect _ s, longSkip_effect _ s⟩

end Sys2Proof.Proofs
end

section
/-! SUPPORT. IDL and holding. The decrement of IDL undoes the advance of its own fetch (R235), so with interrupts off a
step at an IDL leaves the machine where it was, at the same IDL; what it may change composes over steps. -/

namespace Sys2Proof.Machine

/-- What phase 4 will ask, as IDL asks it (R235, R114). -/
theorem interruptWillCome_iff (s : State) :
    interruptWillCome s = true ↔ s.cfg.frameCycles - 29 ≤ s.cyc + 2 ∧ s.ie = true := by
  rw [interruptWillCome, Bool.and_eq_true, decide_eq_true_iff]

/-- R235: IDL moves `R[P]` back, on every step but the one that delivers the interrupt. -/
theorem exec_idl (s : State) :
    exec .idl s = .next (if s.cfg.frameCycles - 29 ≤ s.cyc + 2 ∧ s.ie = true then s else s.decReg s.p) := by
  simp only [← interruptWillCome_iff]
  rfl

/-- R24: lowering the register `P` selects lowers the program counter. -/
@[simp] theorem State.pc_decReg_p (s : State) : (s.decReg s.p).pc = s.pc - 1 :=
  s.readReg_writeReg_self s.p (s.pc - 1)

/-- R111, R235: moving `R[P]` back after the opcode fetch leaves only the latches changed. -/
theorem State.fetchOpcode_decReg_p (s : State) : s.fetchOpcode.decReg s.p = { s with ma := s.pc, mb := s.opcode } := by
  have hback : s.fetchOpcode.readReg s.p - 1 = s.readReg s.p := by
    rw [State.readReg_fetchOpcode, if_pos rfl]
    exact BitVec.add_sub_cancel s.pc 1
  rw [State.decReg, hback]
  exact (State.writeReg_writeReg { s with ma := s.pc, mb := s.opcode } s.p _ _).trans (State.writeReg_readReg _ s.p)

/-- Only `CYC`, the latches, the record of calls and the result differ: no register, flag or byte of memory does. -/
def HeldAt (s s' : State) : Prop :=
  s' = { s with cyc := s'.cyc, ma := s'.ma, mb := s'.mb, trace := s'.trace, result := s'.result }

theorem HeldAt.refl (s : State) : HeldAt s s := rfl

theorem HeldAt.trans {s t u : State} (h : HeldAt s t) (k : HeldAt t u) : HeldAt s u := by
  unfold HeldAt at h k ⊢
  rw [k, h]

theorem HeldAt.opcode_eq {s t : State} (h : HeldAt s t) : t.opcode = s.opcode := by rw [h]; rfl

theorem HeldAt.ie_eq {s t : State} (h : HeldAt s t) : t.ie = s.ie := by rw [h]

/-- An access of the bus sets the latches (R42). -/
theorem State.heldAt_latches (s : State) (a : Word) (b : Byte) : HeldAt s { s with ma := a, mb := b } := rfl

/-- R113: phase 3 counts. -/
theorem State.heldAt_advanceCycles (s : State) : HeldAt s s.advanceCycles := rfl

/-- R115, R116: phase 5 publishes and counts, and changes nothing else. -/
theorem State.heldAt_frameCheck (s : State) : HeldAt s s.frameCheck := by
  obtain ⟨_, h⟩ | ⟨_, h⟩ := s.frameCheck_cases <;> rw [h] <;> rfl

/-- With interrupts off, the phases after an instruction only count. -/
theorem State.heldAt_afterInstruction {s : State} (h : s.ie = false) : HeldAt s s.afterInstruction := by
  rw [State.afterInstruction, State.interruptCheck_of_ie (s := s.advanceCycles) h]
  exact s.heldAt_advanceCycles.trans s.advanceCycles.heldAt_frameCheck

/-- Opcode 0x00 is IDL, whatever bytes follow. -/
theorem decodeBytes_idl (b1 b2 : Byte) : decodeBytes 0x00#8 b1 b2 = .idl := rfl

/-- R235, R339: with interrupts off, a step at an IDL holds the machine at it. -/
theorem step_idl_holds {s : State} (hop : s.opcode = 0x00#8) (hie : s.ie = false) :
    ∃ t, step s = .next t ∧ HeldAt s t := by
  have hexec : exec s.instruction s.fetchOpcode = .next { s with ma := s.pc, mb := s.opcode } := by
    rw [State.instruction, hop, decodeBytes_idl, exec_idl, if_neg (by simp [hie]), State.fetchOpcode_p,
      State.fetchOpcode_decReg_p, hop]
  exact ⟨_, step_of_exec hexec, (s.heldAt_latches _ _).trans (State.heldAt_afterInstruction hie)⟩

/-- R339, R342: a held IDL is held for any number of steps, each of which starts at that same IDL. -/
theorem runSteps_idl_holds (n : Nat) {s : State} (hop : s.opcode = 0x00#8) (hie : s.ie = false) :
    ∃ t, runSteps n s = .next t ∧ HeldAt s t := by
  induction n generalizing s with
  | zero => exact ⟨s, rfl, .refl s⟩
  | succ n ih =>
    obtain ⟨t, hstep, hheld⟩ := step_idl_holds hop hie
    obtain ⟨u, hrun, hrest⟩ := ih (hheld.opcode_eq.trans hop) (hheld.ie_eq.trans hie)
    exact ⟨u, by rw [runSteps_succ hstep, hrun], hheld.trans hrest⟩

end Sys2Proof.Machine
end

section
/-! THEOREMS. IDL: how it waits, and that with interrupts off it waits for ever. -/

namespace Sys2Proof.Proofs
open Sys2Proof.Machine

/-- Settles O60, by induction over the steps: each leaves the machine at the same IDL with `IE` still 0. -/
theorem idlWithInterruptsOffHoldsForEver : Obligations.IdlWithInterruptsOffHoldsForEver :=
  fun n _ hop hie => runSteps_idl_holds n hop hie

/-- Settles O32: the two cases of IDL, an unchanged state and a lowered program counter. -/
theorem idlHoldsUntilTheInterrupt : Obligations.IdlHoldsUntilTheInterrupt := by
  intro s
  rw [exec_idl]
  refine ⟨rfl, _, rfl, ?_⟩
  split_ifs
  · exact ⟨rfl, fun _ _ => rfl, rfl⟩
  · exact ⟨rfl, s.decReg_sameRegistersBut s.p, s.pc_decReg_p⟩

end Sys2Proof.Proofs
end

section
/-! SUPPORT. The control instructions by what they change. RET and DIS are one return, which leaves `IE` set or
clear. -/

namespace Sys2Proof.Machine

/-- R242, R243, R280: the return reads the byte at `R[X]`, increments the register of the old `X`, and takes `X` and `P`
from the byte's nibbles. -/
theorem exec_return_effect {i : Instr} {s : State} {ie : Bool} (h : exec i s = .next (s.returnFromInterrupt ie)) :
    ∃ s', exec i s = .next s' ∧ s'.ie = ie ∧
      s'.x.toNat = (s.peek s.index).toNat / 16 ∧ s'.p.toNat = (s.peek s.index).toNat % 16 ∧
      (s'.readReg s.x).toNat = (s.index.toNat + 1) % 65536 ∧ SameRegistersBut s.x s s' ∧
      s' = { s with r := s'.r, x := s'.x, p := s'.p, ie := s'.ie, ma := s.index, mb := s.peek s.index } :=
  ⟨_, h, rfl, unpackX_toNat (s.peek s.index), unpackP_toNat (s.peek s.index),
    (s.memRead s.index).2.readReg_incReg_self_toNat s.x, (s.memRead s.index).2.incReg_sameRegistersBut s.x, rfl⟩

/-- R242: RET is the return that leaves `IE` set. -/
theorem exec_ret (s : State) : exec .ret s = .next (s.returnFromInterrupt true) := rfl

/-- R243: DIS is the return that leaves `IE` clear. -/
theorem exec_dis (s : State) : exec .dis s = .next (s.returnFromInterrupt false) := rfl

/-- R244: SAV is a `MemWrite` of `T` at `R[X]`. -/
theorem exec_sav (s : State) : exec .sav s = .next (s.memWrite s.index s.t) := rfl

/-- R245: MARK is a `MemWrite` of the new `T` at `R[2]` as it was, before the decrement. -/
theorem exec_mark (s : State) :
    exec .mark s = .next { (s.memWrite (s.readReg 2) (packXP s.x s.p)).decReg 2 with
      t := packXP s.x s.p, x := s.p } := rfl

end Sys2Proof.Machine
end

section
/-! THEOREMS. Control: NOP and opcode 0x68, SEQ and REQ, SEP and SEX, RET and DIS, SAV and MARK. -/

namespace Sys2Proof.Proofs
open Sys2Proof.Machine

/-- Settles O34: the meanings of SEQ and REQ are the two updates of `Q`. -/
theorem seqSetsAndReqClearsQ : Obligations.SeqSetsAndReqClearsQ := fun _ => ⟨rfl, rfl, rfl, rfl⟩

/-- Settles O33: both instructions have the meaning that answers its own state. -/
theorem nopAndOpcode68ChangeNothing : Obligations.NopAndOpcode68ChangeNothing := fun _ => ⟨rfl, rfl, rfl, rfl⟩

/-- Settles O35: the two opcode rows are the updates of `P` and of `X`. -/
theorem sepAndSexSelectARegister : Obligations.SepAndSexSelectARegister := fun n s =>
  ⟨encode_sepOf n, encode_sexOf n, exec_sepOf n s, exec_sexOf n s⟩

/-- Settles O36: the return, with `IE` set or clear. -/
theorem retAndDisReturn : Obligations.RetAndDisReturn := by
  intro s
  exact ⟨rfl, rfl, exec_return_effect (exec_ret s), exec_return_effect (exec_dis s)⟩

/-- Settles O37: each is one `MemWrite`, to which MARK adds registers only. -/
theorem savAndMarkStoreXAndP : Obligations.SavAndMarkStoreXAndP := by
  intro s
  have hmark := s.memWrite_storesByte (s.readReg 2) (packXP s.x s.p)
  exact ⟨rfl, rfl, ⟨_, exec_sav s, s.memWrite_storesByte s.index s.t, rfl⟩,
    ⟨_, exec_mark s, packXP_toNat s.x s.p, rfl, hmark, State.readReg_decReg_self_toNat _ 2,
      State.decReg_sameRegistersBut _ 2, rfl⟩⟩

end Sys2Proof.Proofs
end

section
/-! SUPPORT. The interrupt check and the frame check in full, and the step that delivers the interrupt: its delivery
pins the counter below the budget, so the frame check that follows finds nothing to complete. -/

namespace Sys2Proof.Machine

/-- R114: at or past the interrupt point with `IE` set, phase 4 is the delivery. -/
theorem State.interruptCheck_of_reached {s : State} (hcyc : s.cfg.interruptPoint ≤ s.cyc) (hie : s.ie = true) :
    s.interruptCheck = s.deliverInterrupt := by
  simp [State.interruptCheck, State.interruptTaken, hcyc, hie]

/-- R114: otherwise phase 4 does nothing. -/
theorem State.interruptCheck_of_not {s : State} (h : ¬(s.cfg.interruptPoint ≤ s.cyc ∧ s.ie = true)) :
    s.interruptCheck = s := by
  obtain ⟨hcyc, hie, _⟩ | ⟨_, hs⟩ := s.interruptCheck_cases
  · exact absurd ⟨hcyc, hie⟩ h
  · exact hs

/-- R116: below the budget, phase 5 only returns 0. -/
theorem State.frameCheck_of_lt {s : State} (h : s.cyc < s.cfg.frameCycles) : s.frameCheck = { s with result := 0 } :=
  if_neg (Nat.not_le.mpr h)

/-- R115: the completed frame, with the two calls it makes. -/
theorem State.completeFrame_eq (s : State) :
    s.completeFrame = { s with
      cyc := s.cyc - s.cfg.frameCycles, result := 60
      trace := s.trace ++ [.setDisplayPage s.pc
        (if s.pc.toNat + 256 ≤ s.cfg.memSize then some s.pc.toNat else none), .endOfFrame] } := by
  have htrace : s.trace ++ [.setDisplayPage s.pc s.displayPage] ++ [.endOfFrame] =
      s.trace ++ [.setDisplayPage s.pc s.displayPage, .endOfFrame] := List.append_assoc ..
  exact congrArg (fun calls => { s with cyc := s.cyc - s.cfg.frameCycles, result := 60, trace := calls }) htrace

/-- R114, R120, R275: an instruction that leaves `IE` set and the advanced counter at or past the interrupt point is
followed by the delivery alone, since `FRAME_CYCLES - 29` is below the budget (R7). -/
theorem State.afterInstruction_of_reached {s : State} (hwf : s.cfg.wf = true) (hie : s.ie = true)
    (hcyc : s.cfg.frameCycles - 29 ≤ s.cyc + 2) :
    s.afterInstruction = { s.advanceCycles.deliverInterrupt with result := 0 } := by
  have hlead : 29 ≤ s.cfg.frameCycles := Config.le_frameCycles_of_wf hwf
  have hbelow : s.cfg.frameCycles - 29 < s.cfg.frameCycles := by omega
  rw [State.afterInstruction, State.interruptCheck_of_reached (s := s.advanceCycles) hcyc hie]
  exact State.frameCheck_of_lt hbelow

/-- Opcode 0x70 is RET, whatever bytes follow. -/
theorem decodeBytes_ret (b1 b2 : Byte) : decodeBytes 0x70#8 b1 b2 = .ret := rfl

/-- A step at RET (R242): the return, with the opcode fetched before it and the other phases after it. -/
theorem step_ret {s : State} (h : s.opcode = 0x70#8) :
    step s = .next (s.fetchOpcode.returnFromInterrupt true).afterInstruction :=
  step_of_exec (by rw [State.instruction, h, decodeBytes_ret, exec_ret])

end Sys2Proof.Machine
end

section
/-! THEOREMS. The checks after the instruction, and the steps that deliver the interrupt. -/

namespace Sys2Proof.Proofs
open Sys2Proof.Machine

/-- Settles O46: the phases after the instruction are the delivery, from the state the instruction left. -/
theorem interruptWinsOverTheFrame : Obligations.InterruptWinsOverTheFrame := by
  intro s u hwf hexec hie hcyc
  have hcfg : u.cfg = s.cfg := (exec_change hexec).cfg_eq
  rw [← hcfg] at hwf hcyc ⊢
  have hstep := step_of_exec hexec
  rw [State.afterInstruction_of_reached hwf hie hcyc] at hstep
  exact ⟨_, hstep, rfl, rfl, rfl, packXP_toNat u.x u.p, rfl, rfl, rfl, rfl, rfl, rfl, rfl, rfl⟩

/-- Settles O47: RET leaves `IE` set and the counter alone, so the delivery follows and packs the pair RET unpacked. -/
theorem earlyRetIsInterruptedAtOnce : Obligations.EarlyRetIsInterruptedAtOnce := by
  intro s hwf hop hcyc
  have hstep := step_ret hop
  rw [State.afterInstruction_of_reached (s := s.fetchOpcode.returnFromInterrupt true) hwf rfl hcyc] at hstep
  exact ⟨_, hstep, packXP_unpack (s.peek s.fetchOpcode.index), rfl, rfl, rfl, rfl, rfl⟩

/-- Settles O44: phase 4 is the delivery, or nothing. -/
theorem interruptCheckDelivers : Obligations.InterruptCheckDelivers := by
  refine fun s => ⟨fun ⟨hcyc, hie⟩ => ?_, State.interruptCheck_of_not⟩
  rw [State.interruptCheck_of_reached hcyc hie]
  exact ⟨rfl, packXP_toNat s.x s.p⟩

/-- Settles O45: phase 5 is the completion of the frame, or the result 0. -/
theorem frameCheckCompletesTheFrame : Obligations.FrameCheckCompletesTheFrame := by
  intro s
  rw [State.frameCheck, State.completeFrame_eq]

end Sys2Proof.Proofs
end

section
/-! SUPPORT. The short branches on a condition: each instruction is the short branch on its condition, in the numbers
and flag levels the rules use; a branch on the key asks once, before it branches. Then the page rule over a step. -/

namespace Sys2Proof.Machine

/-- R187: BQ branches when `Q` is 1. -/
theorem exec_bq (a : Byte) (s : State) : exec (.bq a) s = shortBranch (decide (s.q = true)) a s := by
  rw [Bool.decide_eq_true]; rfl

/-- R188: BZ branches when `D` is 0. -/
theorem exec_bz (a : Byte) (s : State) : exec (.bz a) s = shortBranch (decide (s.d.toNat = 0)) a s := by
  rw [decide_toNat_eq_zero]; rfl

/-- R189: BDF branches when `DF` is 1. -/
theorem exec_bdf (a : Byte) (s : State) : exec (.bdf a) s = shortBranch (decide (s.df = true)) a s := by
  rw [Bool.decide_eq_true]; rfl

/-- R195: BNQ branches when `Q` is 0. -/
theorem exec_bnq (a : Byte) (s : State) : exec (.bnq a) s = shortBranch (decide (s.q = false)) a s := by
  rw [Bool.decide_eq_false]; rfl

/-- R196: BNZ branches when `D` is not 0. -/
theorem exec_bnz (a : Byte) (s : State) : exec (.bnz a) s = shortBranch (decide (s.d.toNat ≠ 0)) a s := by
  rw [decide_toNat_ne_zero]; rfl

/-- R197: BNF branches when `DF` is 0. -/
theorem exec_bnf (a : Byte) (s : State) : exec (.bnf a) s = shortBranch (decide (s.df = false)) a s := by
  rw [Bool.decide_eq_false]; rfl

/-- R190, R75: flag 1 is always asserted. -/
theorem exec_b1 (a : Byte) (s : State) : exec (.b1 a) s = shortBranch true a s := rfl

/-- R191, R76: flag 2 never is. -/
theorem exec_b2 (a : Byte) (s : State) : exec (.b2 a) s = shortBranch false a s := rfl

/-- R192, R76: flag 3 never is. -/
theorem exec_b3 (a : Byte) (s : State) : exec (.b3 a) s = shortBranch false a s := rfl

/-- R198, R75: BN1 waits for the flag to be off, which flag 1 never is. -/
theorem exec_bn1 (a : Byte) (s : State) : exec (.bn1 a) s = shortBranch false a s := rfl

/-- R199, R76: flag 2 is always off. -/
theorem exec_bn2 (a : Byte) (s : State) : exec (.bn2 a) s = shortBranch true a s := rfl

/-- R200, R76: flag 3 is always off. -/
theorem exec_bn3 (a : Byte) (s : State) : exec (.bn3 a) s = shortBranch true a s := rfl

/-- R193, R75: B4 asks whether a key is pressed, and branches when one is. -/
theorem exec_b4 (a : Byte) (s : State) : exec (.b4 a) s = shortBranch s.nextKey a s.queryKey.2 := by
  have hlevel : (s.nextKey == true) = s.nextKey := beq_true _
  exact congrArg (shortBranch · a s.queryKey.2) hlevel

/-- R201, R75: BN4 asks whether a key is pressed, and branches when none is. -/
theorem exec_bn4 (a : Byte) (s : State) : exec (.bn4 a) s = shortBranch (!s.nextKey) a s.queryKey.2 := by
  have hlevel : (s.nextKey == false) = !s.nextKey := beq_false _
  exact congrArg (shortBranch · a s.queryKey.2) hlevel

/-- What a register reads as depends on the register file alone. -/
theorem State.readReg_congr {s t : State} (h : t.r = s.r) (n : Nibble) : t.readReg n = s.readReg n := by
  simp only [State.readReg, h]

/-- R273: phase 4 changes no general register. -/
@[simp] theorem State.interruptCheck_r (s : State) : s.interruptCheck.r = s.r := by
  obtain ⟨_, _, h⟩ | ⟨_, h⟩ := s.interruptCheck_cases <;> rw [h]
  rfl

/-- R115: phase 5 changes no general register. -/
@[simp] theorem State.frameCheck_r (s : State) : s.frameCheck.r = s.r := by
  obtain ⟨_, h⟩ | ⟨_, h⟩ := s.frameCheck_cases <;> rw [h]
  rfl

/-- The phases after an instruction change no general register. -/
theorem State.readReg_afterInstruction (s : State) (n : Nibble) : s.afterInstruction.readReg n = s.readReg n :=
  State.readReg_congr (by simp [State.afterInstruction]) n

/-- Opcode 0x30 is BR with the byte after it. -/
theorem decodeBytes_br (b1 b2 : Byte) : decodeBytes 0x30#8 b1 b2 = .br b1 := rfl

/-- A step at BR (R186): the register `P` selects holds the target of the branch, whose operand is the byte after the
opcode. -/
theorem step_br {s : State} (h : s.opcode = 0x30#8) :
    ∃ s', step s = .next s' ∧ s'.readReg s.p = withLowByte (s.pc + 1) (s.peek (s.pc + 1)) := by
  have hexec : exec s.instruction s.fetchOpcode = shortBranch true (s.peek (s.pc + 1)) s.fetchOpcode := by
    rw [State.instruction, h, decodeBytes_br, exec_br]
  refine ⟨_, step_of_exec hexec, ?_⟩
  rw [State.readReg_afterInstruction, if_pos rfl, State.pc_fetchOpcode]
  exact State.pc_setPc _ _

/-- The page of the address after `v`: that of `v`, or the next one when `v` is the last of its page. -/
theorem page_add_one (v : Word) :
    (v + 1).toNat / 256 = if v.toNat % 256 = 255 then (v.toNat / 256 + 1) % 256 else v.toNat / 256 := by
  have hv : v.toNat < 65536 := v.isLt
  have hadd : (v + 1).toNat = (v.toNat + 1) % 65536 := BitVec.toNat_add v 1
  split_ifs <;> omega

end Sys2Proof.Machine
end

section
/-! THEOREMS. Short branches: the page rule over a step, and the conditions. -/

namespace Sys2Proof.Proofs
open Sys2Proof.Machine

/-- Settles O29: the branch lands in the page of its operand, the address after the opcode. -/
theorem shortBranchStaysInThePageOfItsOperand : Obligations.ShortBranchStaysInThePageOfItsOperand := by
  intro s hop
  obtain ⟨s', hstep, htarget⟩ := step_br hop
  exact ⟨s', hstep, by rw [htarget, withLowByte_toNat, page_add_one]⟩

/-- Settles O26: each of the six is the short branch on its condition, whose effect is the same for any condition. -/
theorem registerConditionsOfShortBranches : Obligations.RegisterConditionsOfShortBranches := by
  intro a s
  rw [exec_bq, exec_bz, exec_bdf, exec_bnq, exec_bnz, exec_bnf]
  exact ⟨rfl, rfl, rfl, rfl, rfl, rfl, shortBranch_effect _ a s, shortBranch_effect _ a s, shortBranch_effect _ a s,
    shortBranch_effect _ a s, shortBranch_effect _ a s, shortBranch_effect _ a s⟩

/-- Settles O27: a flag at a fixed level makes its branch the one that is always, or never, taken. -/
theorem wiredFlagsDecideTheirBranches : Obligations.WiredFlagsDecideTheirBranches := by
  intro a s
  rw [exec_b1, exec_b2, exec_b3, exec_bn1, exec_bn2, exec_bn3]
  exact ⟨rfl, rfl, rfl, rfl, rfl, rfl, shortBranch_effect true a s, shortBranch_effect false a s,
    shortBranch_effect false a s, shortBranch_effect false a s, shortBranch_effect true a s,
    shortBranch_effect true a s⟩

/-- Settles O28: the short branch on the answer, from the state after the query. -/
theorem keyBranchesAskOnceAndObeyTheAnswer : Obligations.KeyBranchesAskOnceAndObeyTheAnswer := by
  intro a s
  rw [exec_b4, exec_bn4]
  exact ⟨rfl, rfl, shortBranch_effect s.nextKey a s.queryKey.2, shortBranch_effect (!s.nextKey) a s.queryKey.2, rfl⟩

end Sys2Proof.Proofs
end

section
/-! SUPPORT. The long branches by what they change: `R[P]`, which takes the target or moves past the two operand bytes,
and the latches. Each instruction is the long branch on its condition. -/

namespace Sys2Proof.Machine

/-- R210: both operand bytes are fetched in either case, and nothing is written but `R[P]` and the latches. -/
theorem longBranch_effect (taken : Bool) (target : Word) (s : State) :
    ∃ s', longBranch taken target s = .next s' ∧ LongBranches taken target s s' :=
  ⟨_, congrArg Host.Outcome.next (longBranch_next rfl), State.pc_setPc _ _,
    State.writeReg_sameRegistersBut _ s.p _, rfl⟩

/-- R211: LBR is the long branch that is always taken. -/
theorem exec_lbr (target : Word) (s : State) : exec (.lbr target) s = longBranch true target s := rfl

/-- R212: LBQ branches when `Q` is 1. -/
theorem exec_lbq (target : Word) (s : State) :
    exec (.lbq target) s = longBranch (decide (s.q = true)) target s := by
  rw [Bool.decide_eq_true]; rfl

/-- R213: LBZ branches when `D` is 0. -/
theorem exec_lbz (target : Word) (s : State) :
    exec (.lbz target) s = longBranch (decide (s.d.toNat = 0)) target s := by
  rw [decide_toNat_eq_zero]; rfl

/-- R214: LBDF branches when `DF` is 1. -/
theorem exec_lbdf (target : Word) (s : State) :
    exec (.lbdf target) s = longBranch (decide (s.df = true)) target s := by
  rw [Bool.decide_eq_true]; rfl

/-- R215: LBNQ branches when `Q` is 0. -/
theorem exec_lbnq (target : Word) (s : State) :
    exec (.lbnq target) s = longBranch (decide (s.q = false)) target s := by
  rw [Bool.decide_eq_false]; rfl

/-- R216: LBNZ branches when `D` is not 0. -/
theorem exec_lbnz (target : Word) (s : State) :
    exec (.lbnz target) s = longBranch (decide (s.d.toNat ≠ 0)) target s := by
  rw [decide_toNat_ne_zero]; rfl

/-- R217: LBNF branches when `DF` is 0. -/
theorem exec_lbnf (target : Word) (s : State) :
    exec (.lbnf target) s = longBranch (decide (s.df = false)) target s := by
  rw [Bool.decide_eq_false]; rfl

end Sys2Proof.Machine
end

section
/-! THEOREMS. Long branches: the seven conditions. -/

namespace Sys2Proof.Proofs
open Sys2Proof.Machine

/-- Settles O30: each of the seven is the long branch on its condition, whose effect is the same for any condition. -/
theorem longBranchesLoadTheirTarget : Obligations.LongBranchesLoadTheirTarget := by
  intro target s
  rw [exec_lbr, exec_lbq, exec_lbz, exec_lbdf, exec_lbnq, exec_lbnz, exec_lbnf]
  exact ⟨rfl, rfl, rfl, rfl, rfl, rfl, rfl, longBranch_effect _ target s, longBranch_effect _ target s,
    longBranch_effect _ target s, longBranch_effect _ target s, longBranch_effect _ target s,
    longBranch_effect _ target s, longBranch_effect _ target s⟩

end Sys2Proof.Proofs
end

section
/-! SUPPORT. The byte transfers of ports 1 to 7: what a port does to the record of calls and to the pending answers, and
the access of memory at `R[X]` around it. -/

namespace Sys2Proof.Machine

/-- R71 to R73: reading a port makes the call of port 1 or of port 4, which takes one answer of the keypad latch. -/
theorem State.portIn_snd (s : State) (n : PortNumber) :
    (s.portIn n).2 = { s with
      trace := s.trace ++ (if n = 1 then [.setScreenOn] else if n = 4 then [.readKeypadLatch s.nextKeypad] else [])
      keypadQueries := s.keypadQueries + (if n = 4 then 1 else 0)
      keypadAnswers := if n = 4 then s.keypadAnswers.tail else s.keypadAnswers } := by
  unfold State.portIn
  split_ifs with h1 h4 h4
  · simp [h1] at h4
  · rfl
  · rfl
  · simp

/-- R256: the byte at `R[X]` goes to the port, and then `R[X]` advances. -/
theorem output_effect (n : PortNumber) (s : State) :
    ∃ s', output n s = .next s' ∧
      s'.trace = s.trace ++ (if n = 1 then [.setScreenOff]
        else if n = 4 then [.setDigitDisplay (s.peek s.index)] else []) ∧
      (s'.readReg s.x).toNat = (s.index.toNat + 1) % 65536 ∧ SameRegistersBut s.x s s' ∧
      s' = { s with r := s'.r, trace := s'.trace, ma := s.index, mb := s.peek s.index } := by
  have hout := State.portOut_eq { s with ma := s.index, mb := s.peek s.index } n (s.peek s.index)
  have heq := (output_next rfl).trans (congrArg (State.incReg · s.x) hout)
  refine ⟨_, congrArg Host.Outcome.next heq, rfl, ?_, ?_, rfl⟩
  · exact State.readReg_incReg_self_toNat _ s.x
  · exact State.incReg_sameRegistersBut _ s.x

/-- R257: the byte of the port goes to memory at `R[X]` and to `D`. -/
theorem input_effect (n : PortNumber) (s : State) :
    ∃ s', input n s = .next s' ∧
      s'.d = (if n = 4 then s.nextKeypad else s.cfg.floatBus) ∧ StoresByte s.index s'.d s s' ∧
      s'.trace = s.trace ++ (if n = 1 then [.setScreenOn]
        else if n = 4 then [.readKeypadLatch s.nextKeypad] else []) ∧
      s'.keypadQueries = s.keypadQueries + (if n = 4 then 1 else 0) ∧
      s'.keypadAnswers = (if n = 4 then s.keypadAnswers.tail else s.keypadAnswers) ∧
      s' = { s with d := s'.d, mem := s'.mem, trace := s'.trace, keypadAnswers := s'.keypadAnswers
                    keypadQueries := s'.keypadQueries, ma := s.index, mb := s'.d } := by
  refine ⟨_, rfl, State.portIn_fst s n, ?_⟩
  rw [State.portIn_snd]
  exact ⟨State.memWrite_storesByte _ s.index (s.portIn n).1, rfl, rfl, rfl, rfl⟩

end Sys2Proof.Machine
end

section
/-! THEOREMS. Input and output: OUT 1 to OUT 7 and INP 1 to INP 7. -/

namespace Sys2Proof.Proofs
open Sys2Proof.Machine

/-- Settles O38: away from port 0, which is IRX, the opcode row is the output to port n. -/
theorem outSendsTheByteAtRx : Obligations.OutSendsTheByteAtRx := by
  intro n s hn
  rw [exec_outOf n s hn]
  exact ⟨encode_outOf n, output_effect n s⟩

/-- Settles O39: away from port 0, which is opcode 0x68, the opcode row is the input from port n. -/
theorem inpStoresThePortByte : Obligations.InpStoresThePortByte := by
  intro n s hn
  rw [exec_inpOf n s hn]
  exact ⟨encode_inpOf n, input_effect n s⟩

end Sys2Proof.Proofs
end

section
/-! SUPPORT. The registers and the bytes of memory after a reset. -/

namespace Sys2Proof.Machine

/-- R50: every register is zero after reset. -/
@[simp] theorem State.readReg_resetWith (c : Config) (n : Nibble) : (State.resetWith c).readReg n = 0 :=
  Vector.getElem_replicate n.isLt

/-- R50, R62: every byte in bounds reads 0 after reset. -/
theorem State.peek_resetWith {c : Config} {a : Word} (h : a.toNat < c.memSize) : (State.resetWith c).peek a = 0 :=
  State.peek_of_inBounds (s := State.resetWith c) h

end Sys2Proof.Machine
end

section
/-! THEOREMS. Reset. -/

namespace Sys2Proof.Proofs
open Sys2Proof.Machine

/-- Settles O54: neither the answers of the Hardware Interface nor the record, in which a later reset differs from the
first one, is read by a register or by memory. -/
theorem resetZeroesEverything : Obligations.ResetZeroesEverything := by
  intro s u hu
  have hregs := State.readReg_resetWith s.cfg
  have hmem (a : Word) (ha : a.toNat < s.cfg.memSize) : (State.resetWith s.cfg).peek a = 0 := State.peek_resetWith ha
  obtain rfl | rfl := hu
  · exact ⟨hregs, rfl, rfl, rfl, rfl, rfl, rfl, rfl, rfl, rfl, rfl, hmem, rfl, rfl, rfl⟩
  · exact ⟨hregs, rfl, rfl, rfl, rfl, rfl, rfl, rfl, rfl, rfl, rfl, hmem, rfl, rfl, rfl⟩

end Sys2Proof.Proofs
end
